-- ==== Sys2Proof/Word.lean ====
section
/-! DEFINITION. The word types of the DMX512 transmit engine DMXTX (spec/00_scope.md R10, R14; spec/30_encoding.md R70). -/

namespace Sys2Proof

/-- One slot value, one entry of the slot buffer (R10: slot buffer entries are 8 bits). -/
abbrev Byte := BitVec 8

/-- A format C word: one host command as the command port carries it (R71). -/
abbrev CommandWord := BitVec 32

/-- A format S code: the 3-bit value of `STATE` (R78). -/
abbrev StateCode := BitVec 3

/-- A format P word: one peripheral operation as the POP port carries it (R79). -/
abbrev PopWord := BitVec 16

end Sys2Proof
end

