-- ==== Sys2Proof/Syntax.lean ====
section
/-! DEFINITION. The fifteen operations of the block (spec/00_scope.md R2): five host commands, five TXE arms, five
peripheral operations; one constructor per row of spec/opcode_table.json. -/

namespace Sys2Proof

/-- R34, R81: which of the two bit rates; code 0 is `data`, code 1 is `brk`. -/
inductive Baud where
  /-- `DATA_BAUD` -/
  | data
  /-- `BREAK_BAUD` -/
  | brk
deriving DecidableEq, Repr

/-- R9, R35, R81: which of the two frame formats; code 0 is `data`, code 1 is `brk`. R9: "a model carries the two formats as
two constructors of an enumeration and nothing else". -/
inductive Fmt where
  /-- `DATA_FMT`, "8-data/2-stop" -/
  | data
  /-- `BREAK_FMT`, "8-data/1-stop/parity-bit-adjusted" -/
  | brk
deriving DecidableEq, Repr

/-- R21: the five values of `STATE`. "A model should make it an enumeration of five constructors, not a number"; the codes
5 to 7 have no representation (R84, R126). -/
inductive TxState where
  | brk
  | start
  | data
  | idle
  | breakSent
deriving DecidableEq, Repr

/-- R2(c), R16: one peripheral operation as it stands in a step's output list and in the POP trace. -/
inductive Pop where
  | cfgline (b : Baud) (f : Fmt)
  | flush
  | txieOn
  | txieOff
  | txwrite (v : Byte)
deriving DecidableEq, Repr

/-- The fifteen operations, one constructor per row of spec/opcode_table.json. Slot indices and counts are numbers (R75: "an
unsigned 10-bit number"); `Instr.WellFormed` says which of them a word can carry. -/
inductive Instr where
  /-- START (R100) -/
  | start
  /-- STOP (R101) -/
  | stop
  /-- SETSLOTS count (R102) -/
  | setslots (count : Nat)
  /-- WRSLOT idx, val (R103) -/
  | wrslot (idx : Nat) (val : Byte)
  /-- RDSLOT idx (R104) -/
  | rdslot (idx : Nat)
  /-- TXE.BREAK (R122) -/
  | txeBreak
  /-- TXE.START (R124) -/
  | txeStart
  /-- TXE.DATA (R125) -/
  | txeData
  /-- TXE.IDLE (R121) -/
  | txeIdle
  /-- TXE.BREAK_SENT (R123) -/
  | txeBreakSent
  /-- CFGLINE(b, f) (R141) -/
  | cfgline (b : Baud) (f : Fmt)
  /-- FLUSH (R142) -/
  | flush
  /-- TXIE_ON (R144) -/
  | txieOn
  /-- TXIE_OFF (R145) -/
  | txieOff
  /-- TXWRITE(v) (R146) -/
  | txwrite (v : Byte)
deriving DecidableEq, Repr

end Sys2Proof
end

