-- ==== Sys2Proof/WellFormed.lean ====
section
/-! DEFINITION. Which instructions have a word: the operand ranges of spec/30_encoding.md R75, R76 and R86. -/

namespace Sys2Proof

/-- R86: `SETSLOTS n` with `0 <= n <= 1023`, `WRSLOT i, v` and `RDSLOT i` with `0 <= i <= 1023`; the 8-bit values are in
range by their type, and the other operations have no operand to check. An index above `MAX_SLOTS` is still well formed
(95_test_vectors.md T24 decodes one); that it breaks the caller's contract is said by `Machine.CommandInContract`. -/
def Instr.wellFormed : Instr → Bool
  | .start => true
  | .stop => true
  | .setslots count => decide (count < 1024)
  | .wrslot idx _ => decide (idx < 1024)
  | .rdslot idx => decide (idx < 1024)
  | .txeBreak => true
  | .txeStart => true
  | .txeData => true
  | .txeIdle => true
  | .txeBreakSent => true
  | .cfgline _ _ => true
  | .flush => true
  | .txieOn => true
  | .txieOff => true
  | .txwrite _ => true

/-- The same as a proposition. -/
abbrev Instr.WellFormed (i : Instr) : Prop := i.wellFormed = true

end Sys2Proof
end

