-- ==== Sys2Proof/Decode.lean ====
section
/-! DEFINITION. The three formats of spec/30_encoding.md: the decoder, total on every word and rejecting by name (R72, R83,
R84, R85), and the encoder (R71, R73, R78 to R82). -/

namespace Sys2Proof

/-- R70: a word of one of the three formats. -/
inductive Code where
  /-- Format C: a 32-bit host command word. -/
  | command (w : CommandWord)
  /-- Format S: a 3-bit `STATE` code, which selects the TXE arm. -/
  | state (c : StateCode)
  /-- Format P: a 16-bit peripheral operation word. -/
  | pop (p : PopWord)
deriving DecidableEq, Repr

/-- Why a word is no operation's. -/
inductive DecodeError where
  /-- R83: a command word that matches no row of R73. -/
  | reservedCommand (w : CommandWord)
  /-- R84: a state code 5, 6 or 7. -/
  | reservedState (c : StateCode)
  /-- R80, R85, U13: a peripheral word that matches no row of R80. -/
  | reservedPop (p : PopWord)
deriving DecidableEq, Repr

/-- One row of spec/opcode_table.json: R72 "the command of the one row whose `(w AND mask) = match`". -/
structure Row (n : Nat) where
  /-- the row's `match` -/
  value : BitVec n
  /-- the row's `mask` -/
  mask : BitVec n
  /-- the operation, its operands taken from the word (R75, R76, R81, R82) -/
  build : BitVec n → Instr

/-- R72: `(w AND mask) = match`. -/
def rowFits {n : Nat} (w : BitVec n) (r : Row n) : Bool := w &&& r.mask == r.value

/-- R72: the operation of the row the word fits, if any. -/
def decodeWith {n : Nat} (rows : List (Row n)) (w : BitVec n) : Option Instr :=
  (rows.find? (rowFits w)).map (fun r => r.build w)

/-- R71, R75: `IDX = w[25:16]`, unsigned. -/
def fieldIdx (w : CommandWord) : Nat := (w.extractLsb' 16 10).toNat

/-- R71, R76: `VAL = w[7:0]`. -/
def fieldVal (w : CommandWord) : Byte := w.extractLsb' 0 8

/-- R81: the baud select bit, 0 = `DATA_BAUD`, 1 = `BREAK_BAUD`. -/
def Baud.bit : Baud → BitVec 1
  | .data => 0
  | .brk => 1

/-- R81: the bit rate a select bit names. -/
def Baud.ofBit (b : BitVec 1) : Baud := if b = 1 then .brk else .data

/-- R81: the format select bit, 0 = `DATA_FMT`, 1 = `BREAK_FMT`. -/
def Fmt.bit : Fmt → BitVec 1
  | .data => 0
  | .brk => 1

/-- R81: the frame format a select bit names. -/
def Fmt.ofBit (b : BitVec 1) : Fmt := if b = 1 then .brk else .data

/-- R73: the rows of format C. -/
def commandRows : List (Row 32) := [
  ⟨0x10000000#32, 0xFFFFFFFF#32, fun _ => .start⟩,
  ⟨0x20000000#32, 0xFFFFFFFF#32, fun _ => .stop⟩,
  ⟨0x30000000#32, 0xFC00FFFF#32, fun w => .setslots (fieldIdx w)⟩,
  ⟨0x40000000#32, 0xFC00FF00#32, fun w => .wrslot (fieldIdx w) (fieldVal w)⟩,
  ⟨0x50000000#32, 0xFC00FFFF#32, fun w => .rdslot (fieldIdx w)⟩]

/-- R78: the rows of format S. -/
def stateRows : List (Row 3) := [
  ⟨0#3, 0x7#3, fun _ => .txeBreak⟩,
  ⟨1#3, 0x7#3, fun _ => .txeStart⟩,
  ⟨2#3, 0x7#3, fun _ => .txeData⟩,
  ⟨3#3, 0x7#3, fun _ => .txeIdle⟩,
  ⟨4#3, 0x7#3, fun _ => .txeBreakSent⟩]

/-- R80, R81, R82: the rows of format P. -/
def popRows : List (Row 16) := [
  ⟨0x2000#16, 0xFFFC#16, fun p => .cfgline (Baud.ofBit (p.extractLsb' 0 1)) (Fmt.ofBit (p.extractLsb' 1 1))⟩,
  ⟨0x4000#16, 0xFFFF#16, fun _ => .flush⟩,
  ⟨0x6000#16, 0xFFFF#16, fun _ => .txieOn⟩,
  ⟨0x8000#16, 0xFFFF#16, fun _ => .txieOff⟩,
  ⟨0xA000#16, 0xFF00#16, fun p => .txwrite (p.extractLsb' 0 8)⟩]

/-- R72, R83: the decoding of a command word. -/
def decodeCommand (w : CommandWord) : Except DecodeError Instr :=
  match decodeWith commandRows w with
  | some i => .ok i
  | none => .error (.reservedCommand w)

/-- R78, R84: the arm a state code selects. -/
def decodeState (c : StateCode) : Except DecodeError Instr :=
  match decodeWith stateRows c with
  | some i => .ok i
  | none => .error (.reservedState c)

/-- R80, R85: the decoding of a peripheral word. -/
def decodePop (p : PopWord) : Except DecodeError Instr :=
  match decodeWith popRows p with
  | some i => .ok i
  | none => .error (.reservedPop p)

/-- R70: the decoding of a word of any format. -/
def decode : Code → Except DecodeError Instr
  | .command w => decodeCommand w
  | .state c => decodeState c
  | .pop p => decodePop p

/-- R71: the command word with the given `OPC`, `IDX` and `VAL`, its reserved fields 0. -/
def commandWord (opc : BitVec 4) (idx : BitVec 10) (val : Byte) : CommandWord :=
  opc ++ 0#2 ++ idx ++ 0#8 ++ val

/-- R79: the peripheral word with the given `PCODE` and `PARG`, bits 12:8 zero. -/
def popWord (pcode : BitVec 3) (parg : BitVec 8) : PopWord := pcode ++ 0#5 ++ parg

/-- R80 to R82: the word of a peripheral operation. -/
def Pop.word : Pop → PopWord
  | .cfgline b f => popWord 1 (0#6 ++ f.bit ++ b.bit)
  | .flush => popWord 2 0
  | .txieOn => popWord 3 0
  | .txieOff => popWord 4 0
  | .txwrite v => popWord 5 v

/-- R78: the code of a state. -/
def TxState.code : TxState → StateCode
  | .brk => 0
  | .start => 1
  | .data => 2
  | .idle => 3
  | .breakSent => 4

/-- R78: the state a code names; the reserved codes 5, 6, 7 name none (R84). -/
def TxState.ofCode (c : StateCode) : Option TxState :=
  match c.toNat with
  | 0 => some .brk
  | 1 => some .start
  | 2 => some .data
  | 3 => some .idle
  | 4 => some .breakSent
  | _ => none

/-- The word of an operation, written from R73, R78 and R80. -/
def encode : Instr → Code
  | .start => .command (commandWord 1 0 0)
  | .stop => .command (commandWord 2 0 0)
  | .setslots count => .command (commandWord 3 (BitVec.ofNat 10 count) 0)
  | .wrslot idx val => .command (commandWord 4 (BitVec.ofNat 10 idx) val)
  | .rdslot idx => .command (commandWord 5 (BitVec.ofNat 10 idx) 0)
  | .txeBreak => .state TxState.brk.code
  | .txeStart => .state TxState.start.code
  | .txeData => .state TxState.data.code
  | .txeIdle => .state TxState.idle.code
  | .txeBreakSent => .state TxState.breakSent.code
  | .cfgline b f => .pop (Pop.word (.cfgline b f))
  | .flush => .pop (Pop.word .flush)
  | .txieOn => .pop (Pop.word .txieOn)
  | .txieOff => .pop (Pop.word .txieOff)
  | .txwrite v => .pop (Pop.word (.txwrite v))

/-- The word that `nbits` bits of the opcode table stand for: the table's widths are 3 (in whole bytes, 8), 16 and 32, and
every word is one word of its format (R88: "a command is always one 32-bit word, a peripheral operation always one 16-bit
word"). Bits above the format's width have no place in it. -/
def tableCode (nbits w : Nat) : Option Code :=
  if nbits ≤ 8 then (if w < 2 ^ 3 then some (.state (BitVec.ofNat 3 w)) else none)
  else if nbits ≤ 16 then (if w < 2 ^ 16 then some (.pop (BitVec.ofNat 16 w)) else none)
  else if nbits ≤ 32 then (if w < 2 ^ 32 then some (.command (BitVec.ofNat 32 w)) else none)
  else none

/-- The operation the decoder reads from a word numbered as spec/opcode_table.json numbers its bits. -/
def decodeTableWord (nbits w : Nat) : Option Instr :=
  match tableCode nbits w with
  | some c =>
    match decode c with
    | .ok i => some i
    | .error _ => none
  | none => none

end Sys2Proof
end

