-- ==== Sys2Proof/Config.lean ====
section
/-! DEFINITION. The build-time parameters of the block as one configuration record, and the constraints the spec puts on
them (spec/00_scope.md R5 to R9; spec/42_peripheral_ops.md R143; spec/92_eei_decisions.md D17). -/

namespace Sys2Proof

/-- R9: the parity of the break-rate frame format, which the source does not say: "even, odd, forced". -/
inductive Parity where
  | even
  | odd
  | forced (bit : Bool)
deriving DecidableEq, Repr

/-- D17: "The model takes one configuration record; theorems quantify over it under the constraints." A state carries one
such record, which no step writes, so that a statement about every state is a statement about every realisation. -/
structure Params where
  /-- R5 `MIN_SLOTS`: OPEN; the least slot count SETSLOTS stores. -/
  minSlots : Nat
  /-- R5 `MAX_SLOTS`: the largest slot count, and the last index of the slot buffer. -/
  maxSlots : Nat
  /-- R6 `DATA_BAUD`, bit/s. -/
  dataBaud : Nat
  /-- R6 `BREAK_BAUD`, bit/s. -/
  breakBaud : Nat
  /-- R7 `DATA_SETTLE`: the count IDLE must exceed. -/
  dataSettle : Nat
  /-- R7 `BREAK_SETTLE`: the count BREAK_SENT must exceed. -/
  breakSettle : Nat
  /-- R8 `UART_CLK`: OPEN; the clock the UART divides, Hz. -/
  uartClk : Nat
  /-- R9 `BREAK_PARITY`: OPEN; "No rule of this spec computes a parity bit", so nothing reads it. -/
  breakParity : Parity
deriving DecidableEq, Repr

/-- R5 to R8 and R143: the constraints on the parameters. -/
structure Params.Valid (p : Params) : Prop where
  /-- R5: `1 <= MIN_SLOTS`. -/
  one_le_min : 1 ≤ p.minSlots
  /-- R5: `MIN_SLOTS <= MAX_SLOTS`. -/
  min_le_max : p.minSlots ≤ p.maxSlots
  /-- R5: "N ≤ 512 (protocol ceiling)". -/
  max_le_ceiling : p.maxSlots ≤ 512
  /-- R7: `BREAK_SETTLE > DATA_SETTLE`. -/
  settle_lt : p.dataSettle < p.breakSettle
  /-- R7: `BREAK_SETTLE + 1 < 2^IDLE_W`, with `IDLE_W = 8` (R10). -/
  settle_fits : p.breakSettle + 1 < 2 ^ 8
  /-- R6: the break rate is a rate (R127: "its divisor operand is a non-zero parameter"). -/
  break_pos : 0 < p.breakBaud
  /-- R6: `BREAK_BAUD < DATA_BAUD`. -/
  baud_lt : p.breakBaud < p.dataBaud
  /-- R143: `DIV(1) < 2^16`. -/
  div_fits : p.uartClk / p.breakBaud < 2 ^ 16
  /-- R143: `DIV(0) >= 1`. -/
  div_pos : 1 ≤ p.uartClk / p.dataBaud

/-- The parameter values `State.reset` carries: the source's defaults (R5 to R7) and the spec's reference values for the
three OPEN parameters (R5 `MIN_SLOTS = 24`, R8 `UART_CLK = 80000000`, R9 even parity).
PRESUMED (unsafe: the spec marks those three "[from general knowledge, not in source]"): log entry 2. -/
def Params.reference : Params where
  minSlots := 24
  maxSlots := 512
  dataBaud := 250000
  breakBaud := 90000
  dataSettle := 25
  breakSettle := 70
  uartClk := 80000000
  breakParity := .even

end Sys2Proof
end

