-- ==== Sys2Proof/Machine/State.lean ====
section
/-! DEFINITION. The state of the machine as plain data (spec/10_state.md R20 to R47), its reset values (R47), and the
reasons a step can stop. -/

namespace Sys2Proof.Machine

open Sys2Proof

/-- What a slot of the buffer holds while the memory does not list it: the reset contents, R47 "`BUF[0..512]` | 0x00 each". -/
def unlistedByte : Byte := 0x00

/-- R39, R50: the slot buffer `BUF`, as the slots whose value is not `unlistedByte`, by strictly rising index. -/
abbrev Memory := List Host.Cell

/-- R12, R190: one input of the block. -/
inductive Input where
  /-- `cmd w`: the host issues one command word (R12, R106). -/
  | cmd (w : CommandWord)
  /-- `txe`: one transmit-empty event (R12, R162). -/
  | txe
  /-- A cycle with `rst = 1` (R190). R12 does not count it among its inputs: log entry 6. -/
  | rst
deriving DecidableEq, Repr

/-- The state. The first ten fields are the ten items of R20; `popPort` and `rspPort` are the two ports of R47's last row;
the rest are the MODEL's own: the configuration (D17), the outside world's inputs, and the observation of R13. -/
structure State where
  /-- `STATE` (R21), 3 bits. -/
  txState : TxState
  /-- `CURSOR` (R22), 10 bits; "a model may use unbounded naturals" (R29). -/
  cursor : Nat
  /-- `IDLE_COUNT` (R23), 8 bits; a natural (R29). -/
  idleCount : Nat
  /-- `SLOTS_LATCH` (R24), 10 bits. -/
  slotsLatch : Nat
  /-- `ACTIVE` (R31), 1 bit, "strictly boolean". -/
  active : Bool
  /-- `SLOTS_CFG` (R32), 10 bits. -/
  slotsCfg : Nat
  /-- `TXIE` (R33), 1 bit. -/
  txie : Bool
  /-- `LINE_BAUD` (R34), 1 bit. -/
  lineBaud : Baud
  /-- `LINE_FMT` (R35), 1 bit. -/
  lineFmt : Fmt
  /-- `BUF[0..MAX_SLOTS]` (R39). -/
  buf : Memory
  /-- The POP port (R140, R147): the operations the latest step emitted, oldest first; empty is "idle" (R47). In the cycle
  layer (Machine/Port.lean) those of them not presented yet (R151). -/
  popPort : List Pop
  /-- The response port (R106): the response of the latest step, if it was an RDSLOT; `none` is "idle" (R47). -/
  rspPort : Option Byte
  /-- The MODEL's: the build-time parameters (R5 to R9), which no step writes. -/
  params : Params
  /-- The MODEL's: the inputs the outside world gives the block, next first: R12 "the order and number of inputs". -/
  inputs : List Input
  /-- The MODEL's: a peripheral word put here to be run on its own (log entry 5). No step puts one; `none` in every run. -/
  popFetch : Option PopWord
  /-- The MODEL's: the POP trace so far (R13(a)). -/
  popTrace : List Pop
  /-- The MODEL's: the sequence of RDSLOT responses so far (R13(b)). -/
  responses : List Byte
deriving DecidableEq, Repr

/-- The faults: the block itself has none (R160). -/
inductive Fault where
  /-- Raised by TXE.DATA when `CURSOR` is above `MAX_SLOTS`, so that `BUF[CURSOR]` names no entry. R42 rules such a state out
  in every run, so the spec gives the access no effect. Safe: the model stops where the spec says nothing. -/
  | slotOutOfRange (index : Nat)
deriving DecidableEq, Repr

/-- The refusals: there is no step of the block here. -/
inductive Refusal where
  /-- Raised by `exec` for an instruction without a meaning (no arm of this model). Safe. -/
  | notModelled (mnemonic : String)
  /-- Raised by `step` when the outside world has given no further input: R12, R134, a step is the reaction to an input. Safe. -/
  | noInput
  /-- Raised by `step` for a `txe` input while `TXIE = 0`: R163 "it is no step"; U12 "stuck ... no step exists". Safe. -/
  | txeMasked
  /-- Raised by `step` for a word placed in `popFetch` that is no peripheral operation (R85, U13). Safe. -/
  | reservedPop (p : PopWord)
deriving DecidableEq, Repr

/-- R47: the state after hardware reset, for a block built with the parameters `p`. -/
def State.resetWith (p : Params) : State where
  txState := .idle
  cursor := 0
  idleCount := 0
  slotsLatch := p.maxSlots
  active := false
  slotsCfg := p.maxSlots
  txie := false
  lineBaud := .data
  lineFmt := .data
  buf := []
  popPort := []
  rspPort := none
  params := p
  inputs := []
  popFetch := none
  popTrace := []
  responses := []

/-- The machine right after reset: R47 at the reference parameters (log entry 2). -/
def State.reset : State := State.resetWith Params.reference

end Sys2Proof.Machine
end

