-- ==== Sys2Proof/Machine/Flags.lean ====
section
/-! DEFINITION. Every comparison the block makes (spec/41_txe_state_machine.md R127). The block has no condition codes
(spec/10_state.md R30): its one flag `ACTIVE` is a field of the state, written by START and STOP only. -/

namespace Sys2Proof.Machine

open Sys2Proof

/-- R14, R127: "A comparison \"exceeds\" is true exactly when the left side is greater; equal is false." -/
def exceeds (a b : Nat) : Bool := decide (b < a)

/-- R121: `IDLE_COUNT > DATA_SETTLE`. -/
def dataSettled (s : State) : Bool := exceeds s.idleCount s.params.dataSettle

/-- R123: `IDLE_COUNT > BREAK_SETTLE`. -/
def breakSettled (s : State) : Bool := exceeds s.idleCount s.params.breakSettle

/-- R125: `CURSOR > SLOTS_LATCH`. -/
def frameSent (s : State) : Bool := exceeds s.cursor s.slotsLatch

end Sys2Proof.Machine
end

