-- ==== Sys2Proof/Machine/Operands.lean ====
section
/-! DEFINITION. The operand forms of the block: the slot count of SETSLOTS and the slot index of WRSLOT, RDSLOT and the arms
(spec/40_host_commands.md R102 to R104; spec/20_memory.md R54, R55). -/

namespace Sys2Proof.Machine

open Sys2Proof

/-- R102: `min( max(count, MIN_SLOTS), MAX_SLOTS )`. -/
def clampSlots (p : Params) (count : Nat) : Nat := min (max count p.minSlots) p.maxSlots

/-- R55, R103, R104: `idx <= MAX_SLOTS`, the index names an entry. -/
def namesEntry (p : Params) (idx : Nat) : Bool := decide (idx ≤ p.maxSlots)

/-- R5: `BUF_CAP = MAX_SLOTS + 1`, the number of entries. -/
def bufferCapacity (p : Params) : Nat := p.maxSlots + 1

end Sys2Proof.Machine
end

