-- ==== Sys2Proof/Machine/Ops.lean ====
section
/-! DEFINITION. The named operations over the slot buffer, the registers and the ports, and the taking of a transmit-empty
event (spec/00_scope.md R15; spec/20_memory.md; spec/42_peripheral_ops.md; spec/60_exceptions.md). -/

namespace Sys2Proof.Machine

open Sys2Proof

/-! The slot buffer. -/

/-- The byte at an index: the listed one, else `unlistedByte`. -/
def Memory.read : Memory → Nat → Byte
  | [], _ => unlistedByte
  | c :: m, i => if c.1 = i then c.2 else Memory.read m i

/-- Put a cell in front, unless it holds what an unlisted index reads as. -/
def Memory.cons (i : Nat) (v : Byte) (m : Memory) : Memory :=
  if v = unlistedByte then m else (i, v) :: m

/-- Write the byte at an index, keeping the canonical form. -/
def Memory.write : Memory → Nat → Byte → Memory
  | [], i, v => Memory.cons i v []
  | c :: m, i, v =>
    if i < c.1 then Memory.cons i v (c :: m)
    else if c.1 = i then Memory.cons i v m
    else c :: Memory.write m i v

/-- The canonical form: indices strictly rising, and no entry equal to what an unlisted index reads as. -/
abbrev Memory.wf (m : Memory) : Prop :=
  m.Pairwise (fun a b => a.1 < b.1) ∧ ∀ c ∈ m, c.2 ≠ unlistedByte

/-- R15 `MemRead(i, 1)`: `BUF[i]`, where `i` names an entry (R54, R55). -/
def State.memRead (s : State) (i : Nat) : Option Byte :=
  if namesEntry s.params i then some (Memory.read s.buf i) else none

/-- R15 `MemWrite(i, 1, v)`: `BUF[i] <- v`; R55: with an index that names no entry, "no other entry is touched". -/
def State.memWrite (s : State) (i : Nat) (v : Byte) : State :=
  if namesEntry s.params i then { s with buf := Memory.write s.buf i v } else s

/-! The ports. -/

/-- R15 `emit P`: "appends peripheral operation `P` to the step's output list". -/
def State.emit (s : State) (p : Pop) : State :=
  { s with popPort := s.popPort ++ [p], popTrace := s.popTrace ++ [p] }

/-- R15 `respond v`: "sets the step's read response". -/
def State.respond (s : State) (v : Byte) : State :=
  { s with rspPort := some v, responses := s.responses ++ [v] }

/-- R141 `emit CFGLINE(b, f)`: append the word, `LINE_BAUD <- b`, `LINE_FMT <- f`. -/
def State.configureLine (s : State) (b : Baud) (f : Fmt) : State :=
  { s.emit (.cfgline b f) with lineBaud := b, lineFmt := f }

/-- R144 `emit TXIE_ON; TXIE <- 1`. -/
def State.unmaskTxe (s : State) : State := { s.emit .txieOn with txie := true }

/-- R145 `emit TXIE_OFF; TXIE <- 0`. -/
def State.maskTxe (s : State) : State := { s.emit .txieOff with txie := false }

/-- R143: `DIV(b) = floor(UART_CLK / baud)`. -/
def divisor (p : Params) : Baud → Nat
  | .data => p.uartClk / p.dataBaud
  | .brk => p.uartClk / p.breakBaud

/-- R36, R143: the output `line_div[15:0]`, "a pure function of `LINE_BAUD`". -/
def State.lineDiv (s : State) : BitVec 16 := BitVec.ofNat 16 (divisor s.params s.lineBaud)

/-- R37: the output `o_active`. -/
def State.oActive (s : State) : Bool := s.active

/-- R37: the output `o_state[2:0]`. -/
def State.oState (s : State) : StateCode := s.txState.code

/-! The working registers. -/

/-- R21 `STATE <- x`. -/
def State.moveTo (s : State) (x : TxState) : State := { s with txState := x }

/-- R121, R123: `IDLE_COUNT <- IDLE_COUNT + 1`. -/
def State.countEvent (s : State) : State := { s with idleCount := s.idleCount + 1 }

/-- R23: `IDLE_COUNT <- 0`, on entry to IDLE or BREAK_SENT. -/
def State.clearCount (s : State) : State := { s with idleCount := 0 }

/-- R124, R125: `CURSOR <- CURSOR + 1`. -/
def State.advance (s : State) : State := { s with cursor := s.cursor + 1 }

/-- R124, D11: `SLOTS_LATCH <- SLOTS_CFG` and `CURSOR <- 0`, the start of a frame's slots. -/
def State.openFrame (s : State) : State := { s with slotsLatch := s.slotsCfg, cursor := 0 }

/-! Steps and the transmit-empty event. -/

/-- R12: a step begins with no operation emitted and no response given: every operation of the step before has been
presented (R151), and its response stood for one cycle (R106). -/
def State.beginStep (s : State) : State := { s with popPort := [], rspPort := none }

/-- R78, R120: the arm that `STATE` selects, exactly one for each of its values. -/
def armOf : TxState → Instr
  | .idle => .txeIdle
  | .brk => .txeBreak
  | .breakSent => .txeBreakSent
  | .start => .txeStart
  | .data => .txeData

/-- R163, R168, R171: taking a transmit-empty event, the block's one interrupt. It is taken only while `TXIE = 1`; "Taking a
TXE event saves nothing and switches nothing"; the arm is chosen by the value `STATE` holds at the start of the step (R120).
The return is the end of the arm: "there is no return operation and nothing to restore" (R172). -/
def takeEvent (s : State) : Option (Instr × State) :=
  if s.txie then some (armOf s.txState, s.beginStep) else none

/-- R190: "every register and every entry of `BUF` takes the value of" R47, nothing is emitted and nothing responded. The
parameters, the inputs still to come and the observation of R13 are not registers. -/
def hardwareReset (s : State) : State :=
  { State.resetWith s.params with inputs := s.inputs, popTrace := s.popTrace, responses := s.responses }

end Sys2Proof.Machine
end

