-- ==== Sys2Proof/Machine/HostCommands.lean ====
section
/-! DEFINITION. The five host commands (spec/40_host_commands.md). -/

namespace Sys2Proof.Machine

open Sys2Proof

/-- START (R100): begin producing frames; a complete no-op with `ACTIVE = 1` (R108). The order of the emitted operations is
D15's: FLUSH, then CFGLINE, then TXIE_ON. -/
def execStart (s : State) : Host.Outcome State Fault Refusal :=
  if s.active then .next s
  else
    let line := (s.emit .flush).configureLine .data .data
    let idle := (line.moveTo .idle).clearCount
    .next { idle.unmaskTxe with active := true }

/-- STOP (R101): unconditional, "also when already off" (R145, D16). -/
def execStop (s : State) : Host.Outcome State Fault Refusal :=
  .next { s.maskTxe with active := false }

/-- SETSLOTS count (R102): only `SLOTS_CFG`, clamped on both sides (D12). -/
def execSetslots (count : Nat) (s : State) : Host.Outcome State Fault Refusal :=
  .next { s with slotsCfg := clampSlots s.params count }

/-- WRSLOT idx, val (R103): `BUF[idx] <- val`; an index that names no entry changes nothing (R55, D13; log entry 3). -/
def execWrslot (idx : Nat) (val : Byte) (s : State) : Host.Outcome State Fault Refusal :=
  .next (s.memWrite idx val)

/-- RDSLOT idx (R104): respond `BUF[idx]`; an index that names no entry responds 0x00 (R55, D13; log entry 3). -/
def execRdslot (idx : Nat) (s : State) : Host.Outcome State Fault Refusal :=
  .next (s.respond ((s.memRead idx).getD 0x00))

end Sys2Proof.Machine
end

