-- ==== Sys2Proof/Machine/PeripheralOps.lean ====
section
/-! DEFINITION. The five peripheral operations: the effect of `emit` on the block's own state (spec/42_peripheral_ops.md
section 2). What the UART does with them is the environment's (R4(e), R40). -/

namespace Sys2Proof.Machine

open Sys2Proof

/-- CFGLINE(b, f) (R141), for all four operand pairs; the block emits only two of them (R148). -/
def execCfgline (b : Baud) (f : Fmt) (s : State) : Host.Outcome State Fault Refusal :=
  .next (s.configureLine b f)

/-- FLUSH (R142): "Effect on the block's state: none" beside its place in the trace. -/
def execFlush (s : State) : Host.Outcome State Fault Refusal := .next (s.emit .flush)

/-- TXIE_ON (R144): `TXIE <- 1`; it does not write `ACTIVE`. -/
def execTxieOn (s : State) : Host.Outcome State Fault Refusal := .next s.unmaskTxe

/-- TXIE_OFF (R145): `TXIE <- 0`; it does not write `ACTIVE`. -/
def execTxieOff (s : State) : Host.Outcome State Fault Refusal := .next s.maskTxe

/-- TXWRITE(v) (R146): "Effect on the block's state: none by itself" beside its place in the trace. -/
def execTxwrite (v : Byte) (s : State) : Host.Outcome State Fault Refusal := .next (s.emit (.txwrite v))

end Sys2Proof.Machine
end

