-- ==== Sys2Proof/Machine/TxeArms.lean ====
section
/-! DEFINITION. The five TXE arms, each the reaction to one transmit-empty event (spec/41_txe_state_machine.md section 2). -/

namespace Sys2Proof.Machine

open Sys2Proof

/-- TXE.IDLE (R121): increment, then compare the incremented count. -/
def execTxeIdle (s : State) : Host.Outcome State Fault Refusal :=
  let t := s.countEvent
  .next (if dataSettled t then t.moveTo .brk else t)

/-- TXE.BREAK (R122): to break rate and break format, then the break byte, the constant 0x00. -/
def execTxeBreak (s : State) : Host.Outcome State Fault Refusal :=
  .next ((((s.configureLine .brk .brk).clearCount).emit (.txwrite 0x00)).moveTo .breakSent)

/-- TXE.BREAK_SENT (R123): the shape of TXE.IDLE with the larger threshold. -/
def execTxeBreakSent (s : State) : Host.Outcome State Fault Refusal :=
  let t := s.countEvent
  .next (if breakSettled t then t.moveTo .start else t)

/-- TXE.START (R124): back to data rate and data format, latch the slot count, send the start code `BUF[CURSOR]` with
`CURSOR = 0`, and leave `CURSOR = 1` (C5). -/
def execTxeStart (s : State) : Host.Outcome State Fault Refusal :=
  let t := (s.configureLine .data .data).openFrame
  match t.memRead t.cursor with
  | some v => .next (((t.emit (.txwrite v)).advance).moveTo .data)
  | none => .fault (.slotOutOfRange t.cursor)

/-- TXE.DATA (R125): send `BUF[CURSOR]`, advance, and go idle when the advanced cursor exceeds `SLOTS_LATCH`. R42: the
cursor is in range in every run, so the fault is reached in none. -/
def execTxeData (s : State) : Host.Outcome State Fault Refusal :=
  match s.memRead s.cursor with
  | some v =>
    let t := (s.emit (.txwrite v)).advance
    .next (if frameSent t then (t.moveTo .idle).clearCount else t)
  | none => .fault (.slotOutOfRange s.cursor)

end Sys2Proof.Machine
end

