-- ==== Sys2Proof/Machine/Dispatch.lean ====
section
/-! DEFINITION. The effect of every instruction: one arm per constructor, one direct call of its meaning. -/

namespace Sys2Proof.Machine

open Sys2Proof

def exec (i : Instr) (s : State) : Host.Outcome State Fault Refusal :=
  match i with
  | .start => Sys2Proof.Machine.execStart s
  | .stop => Sys2Proof.Machine.execStop s
  | .setslots count => Sys2Proof.Machine.execSetslots count s
  | .wrslot idx val => Sys2Proof.Machine.execWrslot idx val s
  | .rdslot idx => Sys2Proof.Machine.execRdslot idx s
  | .txeBreak => Sys2Proof.Machine.execTxeBreak s
  | .txeStart => Sys2Proof.Machine.execTxeStart s
  | .txeData => Sys2Proof.Machine.execTxeData s
  | .txeIdle => Sys2Proof.Machine.execTxeIdle s
  | .txeBreakSent => Sys2Proof.Machine.execTxeBreakSent s
  | .cfgline b f => Sys2Proof.Machine.execCfgline b f s
  | .flush => Sys2Proof.Machine.execFlush s
  | .txieOn => Sys2Proof.Machine.execTxieOn s
  | .txieOff => Sys2Proof.Machine.execTxieOff s
  | .txwrite v => Sys2Proof.Machine.execTxwrite v s

end Sys2Proof.Machine
end

