-- ==== Sys2Proof/Machine/Fetch.lean ====
section
/-! DEFINITION. Which operation the next step runs: the choice made by the next input (spec/00_scope.md R12;
spec/41_txe_state_machine.md R120; spec/60_exceptions.md R163), and where a word is placed to be run. -/

namespace Sys2Proof.Machine

open Sys2Proof

/-- What taking an input comes to. -/
inductive Taken where
  /-- The operation runs on this state, and its outcome is the step's. -/
  | run (i : Instr) (s : State)
  /-- The step is complete with this state: no operation runs. -/
  | done (s : State)
  /-- There is no step. -/
  | refuse (r : Refusal)
deriving DecidableEq, Repr

/-- R12: taking the input `x`. A reserved command word "is accepted on the port like any other and does nothing" (R83, R105;
log entry 4). A `txe` while `TXIE = 0` is no step (R163). -/
def acceptInput (x : Input) (s : State) : Taken :=
  match x with
  | .cmd w =>
    match decodeCommand w with
    | .ok i => .run i s.beginStep
    | .error _ => .done s.beginStep
  | .txe =>
    match takeEvent s with
    | some (i, t) => .run i t
    | none => .refuse .txeMasked
  | .rst => .done (hardwareReset s)

/-- The peripheral word placed on its own (log entry 5), as a step that emits exactly it. -/
def acceptPop (p : PopWord) (s : State) : Taken :=
  match decodePop p with
  | .ok i => .run i { s.beginStep with popFetch := none }
  | .error _ => .refuse (.reservedPop p)

/-- The next step's operation: that of the next input. -/
def fetch (s : State) : Taken :=
  match s.popFetch with
  | some p => acceptPop p s
  | none =>
    match s.inputs with
    | [] => .refuse .noInput
    | x :: rest => acceptInput x { s with inputs := rest }

/-- Place a word so that the very next step runs it: a command word as the next input; a state code in `STATE`, with the
event enabled and a `txe` as the next input (R120, R163); a peripheral word on its own (log entry 5). A reserved state code
has no place to stand (R84), and the state is left as it is. -/
def placeCode (s : State) : Code → State
  | .command w => { s with inputs := .cmd w :: s.inputs, popFetch := none }
  | .state c =>
    match TxState.ofCode c with
    | some x => { s with txState := x, txie := true, inputs := .txe :: s.inputs, popFetch := none }
    | none => s
  | .pop p => { s with popFetch := some p }

/-- `placeCode` for a word numbered as spec/opcode_table.json numbers its bits; a word of no format is not placed. -/
def placeTableWord (s : State) (nbits w : Nat) : State :=
  match tableCode nbits w with
  | some c => placeCode s c
  | none => s

end Sys2Proof.Machine
end

