-- ==== Sys2Proof/Machine/Step.lean ====
section
/-! DEFINITION. One step of the machine (spec/00_scope.md R12): atomic, the reaction to one input. -/

namespace Sys2Proof.Machine

open Sys2Proof

/-- The outcome of what was taken. -/
def perform : Taken → Host.Outcome State Fault Refusal
  | .run i s => exec i s
  | .done s => .next s
  | .refuse r => .refused r

/-- R12's `step : State x Input -> State x List POP x Option Byte`: the list of emitted operations stands in `popPort` and
the read response in `rspPort` of the next state. -/
def stepOn (x : Input) (s : State) : Host.Outcome State Fault Refusal := perform (acceptInput x s)

/-- One step: the reaction to the next input. -/
def step (s : State) : Host.Outcome State Fault Refusal := perform (fetch s)

/-- `s` with the word stored where the next step takes its operation from. -/
def State.withFetchWord (s : State) (nbits w : Nat) : State := placeTableWord s nbits w

end Sys2Proof.Machine
end

