-- ==== Sys2Proof/Machine/Port.lean ====
section
/-! DEFINITION. The cycle layer: the command port, the event port and the POP port around `stepOn`
(spec/40_host_commands.md R106; spec/42_peripheral_ops.md R140, R151; spec/60_exceptions.md R168, R169;
spec/70_reset_and_hazards.md R190). `step` does not use it: R169 "A model must not build this priority in". It says what
the block's pins do; between two steps it changes nothing but the two ports. Log entry 7. -/

namespace Sys2Proof.Machine

open Sys2Proof

/-- The input pins in one cycle. -/
structure PortIn where
  rst : Bool
  cmdValid : Bool
  cmdWord : CommandWord
  txeReq : Bool
deriving DecidableEq, Repr

/-- The output pins in one cycle. -/
structure PortOut where
  cmdReady : Bool
  txeAck : Bool
  popValid : Bool
  popWord : PopWord
  rspValid : Bool
  rspData : Byte
  lineDiv : BitVec 16
  oActive : Bool
  oState : StateCode
deriving DecidableEq, Repr

/-- R151: "the POP port is presenting the second or third operation of a step"; `popPort` holds those not presented yet. -/
def portBusy (s : State) : Bool := !s.popPort.isEmpty

/-- R168: "`txe_req = 1`, `TXIE = 1`, and the block is not busy"; never in a cycle with `rst = 1` (R190). -/
def portTakesEvent (s : State) (p : PortIn) : Bool := !p.rst && !portBusy s && p.txeReq && s.txie

/-- R106: `cmd_ready` is 0 in a cycle in which an event is taken (R169), while the POP port is presenting the operations of
an earlier step, and with `rst = 1` (R190); "otherwise it is 1". -/
def portCmdReady (s : State) (p : PortIn) : Bool := !p.rst && !portBusy s && !portTakesEvent s p

/-- The input taken in this cycle, if any. -/
def portInput (s : State) (p : PortIn) : Option Input :=
  if p.rst then some .rst
  else if portTakesEvent s p then some .txe
  else if portCmdReady s p && p.cmdValid then some (.cmd p.cmdWord)
  else none

/-- R140, R173: the first operation of a step is presented in the step's own cycle, the others in the cycles after it. R106:
a response stands on its port in the cycle after its command. R80: the word of an idle port is 0x0000. R37, R143: the status
outputs and `line_div` are functions of the registers, as they stand in this cycle.

DESIGN CHOICE (unsafe), log entry 7: the spec says nothing of `rsp_data` in a cycle with `rsp_valid = 0`; here it is 0x00 in
every such cycle, also in one with `rst = 1` while a response is pending, of which R190 gives `rsp_valid = 0` only. -/
def portOut (s : State) (p : PortIn) (t : State) : PortOut where
  cmdReady := portCmdReady s p
  txeAck := portTakesEvent s p
  popValid := !t.popPort.isEmpty
  popWord := (t.popPort.head?.map Pop.word).getD 0x0000
  rspValid := !p.rst && s.rspPort.isSome
  rspData := if p.rst then 0x00 else s.rspPort.getD 0x00
  lineDiv := s.lineDiv
  oActive := s.oActive
  oState := s.oState

/-- One cycle of `clk`: the step of the input taken, if one is, and the presentation of one operation. -/
def portCycle (s : State) (p : PortIn) : Host.Outcome (PortOut × State) Fault Refusal :=
  match portInput s p with
  | none =>
    let t := { s with rspPort := none }
    .next (portOut s p t, { t with popPort := t.popPort.tail })
  | some x =>
    match stepOn x s with
    | .next t => .next (portOut s p t, { t with popPort := t.popPort.tail })
    | .fault r => .fault r
    | .refused r => .refused r

/-- Consecutive cycles, with what the pins show in each. -/
def portRun : State → List PortIn → Host.Outcome (List PortOut × State) Fault Refusal
  | s, [] => .next ([], s)
  | s, p :: ps =>
    match portCycle s p with
    | .next (o, t) =>
      match portRun t ps with
      | .next (os, u) => .next (o :: os, u)
      | .fault r => .fault r
      | .refused r => .refused r
    | .fault r => .fault r
    | .refused r => .refused r

end Sys2Proof.Machine
end

