-- ==== Sys2Proof/Machine/Script.lean ====
section
/-! DEFINITION. Scripts as lists of inputs: the lines and pseudo-operations of spec/30_encoding.md R86, R87. -/

namespace Sys2Proof.Machine

open Sys2Proof

/-- The line `START`. -/
def scriptStart : Input := .cmd (commandWord 1 0 0)

/-- The line `STOP`. -/
def scriptStop : Input := .cmd (commandWord 2 0 0)

/-- The line `SETSLOTS n`, `0 <= n <= 1023`. -/
def scriptSetslots (n : Nat) : Input := .cmd (commandWord 3 (BitVec.ofNat 10 n) 0)

/-- The line `WRSLOT i, v`, `0 <= i <= 1023`. -/
def scriptWrslot (i : Nat) (v : Byte) : Input := .cmd (commandWord 4 (BitVec.ofNat 10 i) v)

/-- The line `RDSLOT i`, `0 <= i <= 1023`. -/
def scriptRdslot (i : Nat) : Input := .cmd (commandWord 5 (BitVec.ofNat 10 i) 0)

/-- `TXE * k`: `k` lines `TXE`. -/
def scriptTxe (k : Nat) : List Input := List.replicate k .txe

/-- `LOAD a, [v0, v1, ...]`: `WRSLOT a, v0; WRSLOT a+1, v1; ...`. -/
def scriptLoad : Nat → List Byte → List Input
  | _, [] => []
  | a, v :: vs => scriptWrslot a v :: scriptLoad (a + 1) vs

/-- `FILL a, b, v` (with `a <= b`): `WRSLOT a, v; WRSLOT a+1, v; ...; WRSLOT b, v`. -/
def scriptFill (a b : Nat) (v : Byte) : List Input := scriptLoad a (List.replicate (b + 1 - a) v)

/-- R130: the number of events in one frame of `n` slots, `N + DATA_SETTLE + BREAK_SETTLE + 4`. -/
def frameEvents (p : Params) (n : Nat) : Nat := n + p.dataSettle + p.breakSettle + 4

/-- `FRAME`, for a frame of `n` slots. -/
def scriptFrame (p : Params) (n : Nat) : List Input := scriptTxe (frameEvents p n)

end Sys2Proof.Machine
end

