-- ==== Sys2Proof/Safety.lean ====
section
/-! DEFINITION. What counts as a good state and a good run: the invariants of spec/10_state.md section 8, the caller's contract
(spec/93_implementation_defined.md U1, U5, U10, U12), and the environment's fairness (spec/60_exceptions.md R167). -/

namespace Sys2Proof.Machine

open Sys2Proof

/-- R46: the line configuration a transmission state goes with. -/
def lineFor : TxState → Baud × Fmt
  | .idle => (.data, .data)
  | .brk => (.data, .data)
  | .data => (.data, .data)
  | .breakSent => (.brk, .brk)
  | .start => (.brk, .brk)

/-- The invariants of 10_state.md section 8: "Each holds in the reset state and is preserved by every step." R41 holds by the
type of `txState`. -/
structure Inv (s : State) : Prop where
  /-- The parameters meet their constraints (R5 to R8, R143). -/
  params : s.params.Valid
  /-- R42: in DATA, `1 <= CURSOR`. -/
  cursor_pos : s.txState = .data → 1 ≤ s.cursor
  /-- R42: in DATA, `CURSOR <= SLOTS_LATCH`. -/
  cursor_le : s.txState = .data → s.cursor ≤ s.slotsLatch
  /-- R29, R42: the largest value `CURSOR` takes is `MAX_SLOTS + 1`. -/
  cursor_max : s.cursor ≤ s.params.maxSlots + 1
  /-- R43: in IDLE, `IDLE_COUNT <= DATA_SETTLE`. -/
  idle_le : s.txState = .idle → s.idleCount ≤ s.params.dataSettle
  /-- R43: in BREAK_SENT, `IDLE_COUNT <= BREAK_SETTLE`. -/
  breakSent_le : s.txState = .breakSent → s.idleCount ≤ s.params.breakSettle
  /-- R43: the largest value ever held is `BREAK_SETTLE + 1`. -/
  count_max : s.idleCount ≤ s.params.breakSettle + 1
  /-- R44: `TXIE = ACTIVE`. -/
  txie_eq : s.txie = s.active
  /-- R45: `MIN_SLOTS <= SLOTS_CFG <= MAX_SLOTS`. -/
  cfg_range : s.params.minSlots ≤ s.slotsCfg ∧ s.slotsCfg ≤ s.params.maxSlots
  /-- R45: `MIN_SLOTS <= SLOTS_LATCH <= MAX_SLOTS`. -/
  latch_range : s.params.minSlots ≤ s.slotsLatch ∧ s.slotsLatch ≤ s.params.maxSlots
  /-- R46: the line configuration by state. -/
  line : (s.lineBaud, s.lineFmt) = lineFor s.txState
  /-- The slot buffer is in canonical form (the model's). -/
  buf_wf : Memory.wf s.buf
  /-- R39, R55: only the entries `0 .. MAX_SLOTS` exist. -/
  buf_range : ∀ c ∈ s.buf, c.1 ≤ s.params.maxSlots
  /-- No peripheral word is placed to be run on its own (the model's, log entry 5). -/
  no_popFetch : s.popFetch = none

/-- The command words inside the caller's contract: not reserved (U5), a slot index that names an entry (U1), a slot count
not above `MAX_SLOTS` (U10). "a claim that quantifies over command sequences excludes" the others "by hypothesis": a claim
meant for every realisation assumes this. -/
def CommandInContract (p : Params) (w : CommandWord) : Bool :=
  match decodeCommand w with
  | .ok (.setslots count) => decide (count ≤ p.maxSlots)
  | .ok (.wrslot idx _) => namesEntry p idx
  | .ok (.rdslot idx) => namesEntry p idx
  | .ok _ => true
  | .error _ => false

/-- R12, R163: the inputs that are enabled in a state; `txe` "is enabled only when `TXIE = 1`". -/
def inputEnabled (x : Input) (s : State) : Bool :=
  match x with
  | .cmd _ => true
  | .txe => s.txie
  | .rst => true

/-- A machine step happens: it neither faults nor refuses. -/
def Steps (s : State) : Prop := ∃ t, step s = .next t

/-- R12, R13: an endless run on an endless sequence of inputs. -/
def RunsOn (σ : Nat → Input) (r : Nat → State) : Prop := ∀ n, stepOn (σ n) (r n) = .next (r (n + 1))

/-- R167 EA2: "While `TXIE = 1`, TXE events keep coming: after any step there is a later TXE event, unless a STOP comes
first." An assumption on the `txe` input, "not ... a property of the machine". -/
def WeaklyFair (σ : Nat → Input) (r : Nat → State) : Prop :=
  ∀ n, ∃ m, n ≤ m ∧ (σ m = .txe ∨ (r m).txie = false)

/-- R128: the next state of the frame cycle, IDLE, BREAK, BREAK_SENT, START, DATA, IDLE. -/
def cycleNext : TxState → TxState
  | .idle => .brk
  | .brk => .breakSent
  | .breakSent => .start
  | .start => .data
  | .data => .idle

/-- R131: the peripheral operations of one frame of `n` slots over an unchanging buffer. -/
def frameTrace (buf : Memory) (n : Nat) : List Pop :=
  [.cfgline .brk .brk, .txwrite 0x00, .cfgline .data .data] ++
    (List.range (n + 1)).map (fun k => .txwrite (Memory.read buf k))

/-- R147: "The emitted operations of every step, complete", by the operation that runs; a peripheral operation placed on its
own emits itself (R15). -/
def emissionList (i : Instr) (s : State) : List Pop :=
  match i with
  | .start => if s.active then [] else [.flush, .cfgline .data .data, .txieOn]
  | .stop => [.txieOff]
  | .setslots _ => []
  | .wrslot _ _ => []
  | .rdslot _ => []
  | .txeIdle => []
  | .txeBreak => [.cfgline .brk .brk, .txwrite 0x00]
  | .txeBreakSent => []
  | .txeStart => [.cfgline .data .data, .txwrite (Memory.read s.buf 0)]
  | .txeData => [.txwrite (Memory.read s.buf s.cursor)]
  | .cfgline b f => [.cfgline b f]
  | .flush => [.flush]
  | .txieOn => [.txieOn]
  | .txieOff => [.txieOff]
  | .txwrite v => [.txwrite v]

/-- R85, R148: the peripheral operations the block ever emits. -/
def emittable : Pop → Bool
  | .cfgline .data .data => true
  | .cfgline .brk .brk => true
  | .cfgline _ _ => false
  | .flush => true
  | .txieOn => true
  | .txieOff => true
  | .txwrite _ => true

end Sys2Proof.Machine
end

