-- ==== Sys2Proof/Certificates/Slice0/Obligations.lean ====
section
/-! DEFINITION. The statements for the provers. A statement about every state is a statement about every parameter record
(`State.params`), for every buffer, every schedule of inputs and every trace so far. -/

open Sys2Proof Sys2Proof.Machine

/-! Steps. -/

/-- R12, R120, R163: the operation a step runs is the one its input decodes to, on the state whose ports a new step finds
idle; a peripheral word placed on its own (log entry 5) runs as itself. -/
def Obligations.StepRunsTheDecodedOperation : Prop :=
  ∀ (s : State) (rest : List Input) (i : Instr),
    (∀ w : CommandWord, s.popFetch = none → s.inputs = .cmd w :: rest → decodeCommand w = .ok i →
      step s = exec i { s with inputs := rest, popPort := [], rspPort := none }) ∧
    (s.popFetch = none → s.inputs = .txe :: rest → s.txie = true → decodeState s.txState.code = .ok i →
      step s = exec i { s with inputs := rest, popPort := [], rspPort := none }) ∧
    (∀ p : PopWord, s.popFetch = some p → decodePop p = .ok i →
      step s = exec i { s with popFetch := none, popPort := [], rspPort := none })

/-- R120: exactly one arm, the one `STATE` selects at the start of the step. -/
def Obligations.EventRunsTheArmOfState : Prop :=
  ∀ (s : State) (rest : List Input), s.popFetch = none → s.inputs = .txe :: rest → s.txie = true →
    let u := { s with inputs := rest, popPort := [], rspPort := none }
    (s.txState = .idle → step s = exec .txeIdle u) ∧
    (s.txState = .brk → step s = exec .txeBreak u) ∧
    (s.txState = .breakSent → step s = exec .txeBreakSent u) ∧
    (s.txState = .start → step s = exec .txeStart u) ∧
    (s.txState = .data → step s = exec .txeData u)

/-- R163: a `txe` with `TXIE = 0` "is no step", and `TXIE` is set only by START (when inactive) and cleared only by STOP, but
for hardware reset (R190), which is an input of a step by log entry 6. The name of the refusal is log entry 1. -/
def Obligations.EventsAreMaskedWhileDisabled : Prop :=
  (∀ (s : State) (rest : List Input), s.popFetch = none → s.inputs = .txe :: rest → s.txie = false →
    step s = .refused .txeMasked) ∧
  (∀ (s t : State) (x : Input) (rest : List Input), s.popFetch = none → s.inputs = x :: rest → step s = .next t →
    t.txie ≠ s.txie →
      (∃ w, x = .cmd w ∧ decodeCommand w = .ok .start ∧ s.active = false ∧ t.txie = true) ∨
      (∃ w, x = .cmd w ∧ decodeCommand w = .ok .stop ∧ t.txie = false) ∨
      (x = .rst ∧ t.txie = false))

/-- R83, R105: the hardware's half of the rule; that the model takes it rather than refuse is log entry 4. -/
def Obligations.ReservedCommandIsIgnored : Prop :=
  ∀ (s : State) (w : CommandWord) (rest : List Input) (e : DecodeError),
    s.popFetch = none → s.inputs = .cmd w :: rest → decodeCommand w = .error e →
      step s = .next { s with inputs := rest, popPort := [], rspPort := none }

/-! Reset. -/

/-- R47: the reset table, for every parameter record; and `State.reset` is that table for a block with `MAX_SLOTS = 512`. -/
def Obligations.ResetTable : Prop :=
  (∀ p : Params,
    let r := State.resetWith p
    r.active = false ∧ r.txie = false ∧ r.txState = .idle ∧ r.idleCount = 0 ∧ r.cursor = 0 ∧
    r.slotsCfg = p.maxSlots ∧ r.slotsLatch = p.maxSlots ∧ r.lineBaud = .data ∧ r.lineFmt = .data ∧
    (∀ i, Memory.read r.buf i = 0x00) ∧ r.popPort = [] ∧ r.rspPort = none ∧
    (∀ rest, step { r with inputs := .txe :: rest } = .refused .txeMasked)) ∧
  ∃ p : Params, State.reset = State.resetWith p ∧ p.maxSlots = 512

/-- R190: a cycle with `rst = 1`, as a step of the machine and on the pins. That `rst` is an input of a step, and that the
inputs to come, the POP trace and the responses stay over it, also when it cuts a presentation short, is the model's: log
entry 6. -/
def Obligations.HardwareReset : Prop :=
  (∀ (s : State) (rest : List Input), s.popFetch = none → s.inputs = .rst :: rest →
    step s = .next { State.resetWith s.params with
      inputs := rest, popTrace := s.popTrace, responses := s.responses }) ∧
  (∀ (s : State) (cmdValid : Bool) (cmdWord : CommandWord) (txeReq : Bool), ∃ o,
    portCycle s ⟨true, cmdValid, cmdWord, txeReq⟩ =
      .next (o, { State.resetWith s.params with
        inputs := s.inputs, popTrace := s.popTrace, responses := s.responses }) ∧
    o.cmdReady = false ∧ o.txeAck = false ∧ o.popValid = false ∧ o.rspValid = false)

/-! Host commands. -/

/-- R100. -/
def Obligations.StartCommand : Prop :=
  encode .start = .command 0x10000000#32 ∧
  ∀ s : State,
    (s.active = false → exec .start s = .next { s with
      lineBaud := .data, lineFmt := .data, txState := .idle, idleCount := 0, txie := true, active := true,
      popPort := s.popPort ++ [.flush, .cfgline .data .data, .txieOn],
      popTrace := s.popTrace ++ [.flush, .cfgline .data .data, .txieOn] }) ∧
    (s.active = true → exec .start s = .next s)

/-- R101. -/
def Obligations.StopCommand : Prop :=
  encode .stop = .command 0x20000000#32 ∧
  ∀ s : State, exec .stop s = .next { s with
    txie := false, active := false, popPort := s.popPort ++ [.txieOff], popTrace := s.popTrace ++ [.txieOff] }

/-- R102. -/
def Obligations.SetslotsCommand : Prop :=
  (∀ count, count < 1024 →
    encode (.setslots count) = .command (0x30000000#32 ||| (BitVec.ofNat 32 count <<< 16))) ∧
  ∀ (s : State) (count : Nat), exec (.setslots count) s =
    .next { s with slotsCfg := min (max count s.params.minSlots) s.params.maxSlots }

/-- R103, both branches of its pseudocode. Taking the hardware's branch above `MAX_SLOTS` and not a refusal: log entry 3. -/
def Obligations.WrslotCommand : Prop :=
  (∀ idx (val : Byte), idx < 1024 →
    encode (.wrslot idx val) = .command (0x40000000#32 ||| (BitVec.ofNat 32 idx <<< 16) ||| val.setWidth 32)) ∧
  ∀ (s : State) (idx : Nat) (val : Byte), Memory.wf s.buf →
    (idx ≤ s.params.maxSlots → ∃ b, exec (.wrslot idx val) s = .next { s with buf := b } ∧ Memory.wf b ∧
      Memory.read b idx = val ∧ ∀ j, j ≠ idx → Memory.read b j = Memory.read s.buf j) ∧
    (s.params.maxSlots < idx → exec (.wrslot idx val) s = .next s)

/-- R104, both branches of its pseudocode. Taking the hardware's branch above `MAX_SLOTS` and not a refusal: log entry 3. -/
def Obligations.RdslotCommand : Prop :=
  (∀ idx, idx < 1024 →
    encode (.rdslot idx) = .command (0x50000000#32 ||| (BitVec.ofNat 32 idx <<< 16))) ∧
  ∀ (s : State) (idx : Nat),
    (idx ≤ s.params.maxSlots → exec (.rdslot idx) s = .next { s with
      rspPort := some (Memory.read s.buf idx), responses := s.responses ++ [Memory.read s.buf idx] }) ∧
    (s.params.maxSlots < idx → exec (.rdslot idx) s = .next { s with
      rspPort := some 0x00, responses := s.responses ++ [0x00] })

/-- R108: at the level of a step, START with `ACTIVE = 1` changes no register, emits nothing, responds nothing. -/
def Obligations.StartIsIdempotent : Prop :=
  ∀ (s : State) (rest : List Input), s.active = true → s.popFetch = none →
    s.inputs = .cmd 0x10000000#32 :: rest → step s = .next { s with inputs := rest, popPort := [], rspPort := none }

/-- R109. -/
def Obligations.StopThenStartReinitialises : Prop :=
  ∀ (s : State) (rest : List Input), s.popFetch = none →
    s.inputs = .cmd 0x20000000#32 :: .cmd 0x10000000#32 :: rest →
    Host.Core.run core 2 s = .next { s with
      active := true, txie := true, txState := .idle, idleCount := 0, lineBaud := .data, lineFmt := .data,
      inputs := rest, popPort := [.flush, .cfgline .data .data, .txieOn], rspPort := none,
      popTrace := s.popTrace ++ [.txieOff, .flush, .cfgline .data .data, .txieOn] }

/-! TXE arms. -/

/-- R121. -/
def Obligations.IdleArm : Prop :=
  encode .txeIdle = .state 3#3 ∧
  ∀ s : State, exec .txeIdle s = .next { s with
    idleCount := s.idleCount + 1,
    txState := if s.params.dataSettle < s.idleCount + 1 then .brk else s.txState }

/-- R122. -/
def Obligations.BreakArm : Prop :=
  encode .txeBreak = .state 0#3 ∧
  ∀ s : State, exec .txeBreak s = .next { s with
    lineBaud := .brk, lineFmt := .brk, idleCount := 0, txState := .breakSent,
    popPort := s.popPort ++ [.cfgline .brk .brk, .txwrite 0x00],
    popTrace := s.popTrace ++ [.cfgline .brk .brk, .txwrite 0x00] }

/-- R123. -/
def Obligations.BreakSentArm : Prop :=
  encode .txeBreakSent = .state 4#3 ∧
  ∀ s : State, exec .txeBreakSent s = .next { s with
    idleCount := s.idleCount + 1,
    txState := if s.params.breakSettle < s.idleCount + 1 then .start else s.txState }

/-- R124. -/
def Obligations.StartArm : Prop :=
  encode .txeStart = .state 1#3 ∧
  ∀ s : State, exec .txeStart s = .next { s with
    lineBaud := .data, lineFmt := .data, slotsLatch := s.slotsCfg, cursor := 1, txState := .data,
    popPort := s.popPort ++ [.cfgline .data .data, .txwrite (Memory.read s.buf 0)],
    popTrace := s.popTrace ++ [.cfgline .data .data, .txwrite (Memory.read s.buf 0)] }

/-- R125, where `CURSOR` names an entry (R42: it does in every run). -/
def Obligations.DataArm : Prop :=
  encode .txeData = .state 2#3 ∧
  ∀ s : State, s.cursor ≤ s.params.maxSlots → exec .txeData s = .next { s with
    cursor := s.cursor + 1,
    txState := if s.slotsLatch < s.cursor + 1 then .idle else s.txState,
    idleCount := if s.slotsLatch < s.cursor + 1 then 0 else s.idleCount,
    popPort := s.popPort ++ [.txwrite (Memory.read s.buf s.cursor)],
    popTrace := s.popTrace ++ [.txwrite (Memory.read s.buf s.cursor)] }

/-- The MODEL's stop, log entry 8: `CURSOR` above `MAX_SLOTS` names no entry, a case R42 rules out in every run. -/
def Obligations.DataArmOutsideTheBuffer : Prop :=
  ∀ s : State, s.params.maxSlots < s.cursor → exec .txeData s = .fault (.slotOutOfRange s.cursor)

/-! Peripheral operations. -/

/-- R79 to R82, R141 to R146: the word of each peripheral operation, its effect on the block's own state, and nothing else.
That such an operation can be run on its own is log entry 5. -/
def Obligations.PeripheralOperations : Prop :=
  (encode (.cfgline .data .data) = .pop 0x2000#16 ∧ encode (.cfgline .brk .data) = .pop 0x2001#16 ∧
    encode (.cfgline .data .brk) = .pop 0x2002#16 ∧ encode (.cfgline .brk .brk) = .pop 0x2003#16 ∧
    encode .flush = .pop 0x4000#16 ∧ encode .txieOn = .pop 0x6000#16 ∧ encode .txieOff = .pop 0x8000#16 ∧
    ∀ v : Byte, encode (.txwrite v) = .pop (0xA000#16 ||| v.setWidth 16)) ∧
  ∀ s : State,
    (∀ (b : Baud) (f : Fmt), exec (.cfgline b f) s = .next { s with
      lineBaud := b, lineFmt := f,
      popPort := s.popPort ++ [.cfgline b f], popTrace := s.popTrace ++ [.cfgline b f] }) ∧
    exec .flush s = .next { s with popPort := s.popPort ++ [.flush], popTrace := s.popTrace ++ [.flush] } ∧
    exec .txieOn s = .next { s with
      txie := true, popPort := s.popPort ++ [.txieOn], popTrace := s.popTrace ++ [.txieOn] } ∧
    exec .txieOff s = .next { s with
      txie := false, popPort := s.popPort ++ [.txieOff], popTrace := s.popTrace ++ [.txieOff] } ∧
    (∀ v : Byte, exec (.txwrite v) s = .next { s with
      popPort := s.popPort ++ [.txwrite v], popTrace := s.popTrace ++ [.txwrite v] })

/-- R147: the operations each step emits, complete and in order, and none for a reserved command. The quantifier takes in the
five peripheral operations run on their own, each of which emits itself (R15): that they can be run so is the model's choice,
log entry 5. That a reserved command has a step at all is log entry 4. -/
def Obligations.EmissionListIsComplete : Prop :=
  (∀ (i : Instr) (s t : State), exec i s = .next t →
    t.popPort = s.popPort ++ emissionList i s ∧ t.popTrace = s.popTrace ++ emissionList i s) ∧
  (∀ (s t : State) (w : CommandWord) (rest : List Input) (e : DecodeError), s.popFetch = none →
    s.inputs = .cmd w :: rest → decodeCommand w = .error e → step s = .next t →
    t.popPort = [] ∧ t.popTrace = s.popTrace)

/-- R85, R148: every CFGLINE a step emits is `CFGLINE(0, 0)` or `CFGLINE(1, 1)`. -/
def Obligations.OnlyTwoLineConfigurationsAreEmitted : Prop :=
  ∀ s t : State, s.popFetch = none → step s = .next t → ∀ p ∈ t.popPort, emittable p = true

/-- R149: the one byte ever sent at break rate is the break byte, and every byte at data rate is a buffer entry. -/
def Obligations.OnlyTheBreakByteAtBreakRate : Prop :=
  ∀ (s t : State) (v : Byte), Inv s → step s = .next t → .txwrite v ∈ t.popPort →
    (t.lineBaud = .brk → t.popPort = [.cfgline .brk .brk, .txwrite 0x00] ∧ s.txState = .brk) ∧
    (t.lineBaud = .data → (v = Memory.read s.buf 0 ∧ s.txState = .start) ∨
      (v = Memory.read s.buf s.cursor ∧ s.txState = .data))

/-- R143: the divisor output. -/
def Obligations.DivisorOutput : Prop :=
  (∀ s : State, s.params.Valid →
    (s.lineBaud = .data → s.lineDiv.toNat = s.params.uartClk / s.params.dataBaud) ∧
    (s.lineBaud = .brk → s.lineDiv.toNat = s.params.uartClk / s.params.breakBaud)) ∧
  (∀ s : State, s.params.uartClk = 80000000 → s.params.dataBaud = 250000 → s.params.breakBaud = 90000 →
    (s.lineBaud = .data → s.lineDiv = 320) ∧ (s.lineBaud = .brk → s.lineDiv = 888))

/-! Which operation touches what. -/

/-- R28: how each operation moves the position (`STATE`, `CURSOR`). -/
def Obligations.PositionMoves : Prop :=
  ∀ s t : State,
    (s.txState = .idle → exec .txeIdle s = .next t →
      t.cursor = s.cursor ∧
      t.txState = if s.params.dataSettle < t.idleCount then .brk else .idle) ∧
    (exec .txeBreak s = .next t → t.cursor = s.cursor ∧ t.txState = .breakSent) ∧
    (s.txState = .breakSent → exec .txeBreakSent s = .next t →
      t.cursor = s.cursor ∧
      t.txState = if s.params.breakSettle < t.idleCount then .start else .breakSent) ∧
    (exec .txeStart s = .next t → t.cursor = 1 ∧ t.txState = .data) ∧
    (s.txState = .data → exec .txeData s = .next t →
      if s.cursor + 1 ≤ s.slotsLatch then t.cursor = s.cursor + 1 ∧ t.txState = .data else t.txState = .idle) ∧
    (s.active = false → exec .start s = .next t → t.cursor = s.cursor ∧ t.txState = .idle) ∧
    (s.active = true → exec .start s = .next t → t.cursor = s.cursor ∧ t.txState = s.txState) ∧
    (∀ i : Instr, (i = .stop ∨ (∃ n, i = .setslots n) ∨ (∃ k v, i = .wrslot k v) ∨ (∃ k, i = .rdslot k)) →
      exec i s = .next t → t.cursor = s.cursor ∧ t.txState = s.txState) ∧
    (∀ (w : CommandWord) (rest : List Input) (e : DecodeError), s.popFetch = none → s.inputs = .cmd w :: rest →
      decodeCommand w = .error e → step s = .next t → t.cursor = s.cursor ∧ t.txState = s.txState)

/-- R25, both columns of its table. The writers: "an operation not listed leaves the register unchanged". The readers: what an
operation does is the same whatever a register it does not read holds, but for that register itself; `STATE` is read by the
dispatch alone, and TXE.START reads `CURSOR` after it wrote it. -/
def Obligations.AccessToWorkingRegisters : Prop :=
  (∀ (i : Instr) (s t : State), exec i s = .next t →
    (t.txState ≠ s.txState → i = .txeIdle ∨ i = .txeBreak ∨ i = .txeBreakSent ∨ i = .txeStart ∨ i = .txeData ∨
      (i = .start ∧ s.active = false)) ∧
    (t.cursor ≠ s.cursor → i = .txeStart ∨ i = .txeData) ∧
    (t.idleCount ≠ s.idleCount → i = .txeIdle ∨ i = .txeBreak ∨ i = .txeBreakSent ∨
      (i = .txeData ∧ s.slotsLatch < s.cursor + 1) ∨ (i = .start ∧ s.active = false)) ∧
    (t.slotsLatch ≠ s.slotsLatch → i = .txeStart)) ∧
  (∀ (i : Instr) (s t : State), exec i s = .next t →
    (∀ x, ∃ u, exec i { s with txState := x } = .next u ∧ { u with txState := t.txState } = t) ∧
    (∀ c, i ≠ .txeData → ∃ u, exec i { s with cursor := c } = .next u ∧ { u with cursor := t.cursor } = t) ∧
    (∀ k, i ≠ .txeIdle → i ≠ .txeBreakSent →
      ∃ u, exec i { s with idleCount := k } = .next u ∧ { u with idleCount := t.idleCount } = t) ∧
    (∀ n, i ≠ .txeData → ∃ u, exec i { s with slotsLatch := n } = .next u ∧ { u with slotsLatch := t.slotsLatch } = t))

/-- R175: what the two contexts may write. The arms write neither `BUF`, `SLOTS_CFG`, `ACTIVE` nor `TXIE`; host commands
write `STATE`, `IDLE_COUNT` and the line only by START while `ACTIVE = 0`, and never `CURSOR` or `SLOTS_LATCH`; and each of the
remaining host registers has its own command. -/
def Obligations.ContextsWriteTheirOwnState : Prop :=
  (∀ (x : TxState) (s t : State), exec (armOf x) s = .next t →
    t.buf = s.buf ∧ t.slotsCfg = s.slotsCfg ∧ t.active = s.active ∧ t.txie = s.txie ∧ t.responses = s.responses ∧
    ((t.lineBaud ≠ s.lineBaud ∨ t.lineFmt ≠ s.lineFmt) → x = .brk ∨ x = .start)) ∧
  (∀ (w : CommandWord) (i : Instr) (s t : State), decodeCommand w = .ok i → exec i s = .next t →
    t.cursor = s.cursor ∧ t.slotsLatch = s.slotsLatch ∧
    ((t.txState ≠ s.txState ∨ t.idleCount ≠ s.idleCount ∨ t.lineBaud ≠ s.lineBaud ∨ t.lineFmt ≠ s.lineFmt) →
      i = .start ∧ s.active = false) ∧
    ((t.active ≠ s.active ∨ t.txie ≠ s.txie) → i = .start ∨ i = .stop) ∧
    (t.slotsCfg ≠ s.slotsCfg → ∃ n, i = .setslots n) ∧
    (t.buf ≠ s.buf → ∃ k v, i = .wrslot k v) ∧
    (t.responses ≠ s.responses → ∃ k, i = .rdslot k))

/-! Encodings. -/

/-- Decode and encode agree, for every operation and every operand its encoding admits. -/
def Obligations.DecodeOfEncode : Prop :=
  ∀ i : Instr, i.WellFormed → decode (encode i) = .ok i

/-- R72, R74, R84, R85: each word decodes to at most one operation, and only its own encoding does: no bit is ignored. -/
def Obligations.EncodeOfDecode : Prop :=
  ∀ (c : Code) (i : Instr), decode c = .ok i → i.WellFormed ∧ encode i = c

/-- R72: the rows of each format are disjoint. -/
def Obligations.TableRowsAreDisjoint : Prop :=
  (∀ (w : CommandWord) (j k : Nat) (a b : Row 32), commandRows[j]? = some a → commandRows[k]? = some b →
    rowFits w a = true → rowFits w b = true → j = k) ∧
  (∀ (c : StateCode) (j k : Nat) (a b : Row 3), stateRows[j]? = some a → stateRows[k]? = some b →
    rowFits c a = true → rowFits c b = true → j = k) ∧
  (∀ (p : PopWord) (j k : Nat) (a b : Row 16), popRows[j]? = some a → popRows[k]? = some b →
    rowFits p a = true → rowFits p b = true → j = k)

/-- R74: a word is a command exactly when its `OPC` is one of 1 to 5, its reserved fields are 0, and the fields its command
does not use are 0. -/
def Obligations.MustBeZeroFieldsAreChecked : Prop :=
  ∀ w : CommandWord,
    let opc := w.extractLsb' 28 4
    let idx := w.extractLsb' 16 10
    let val := w.extractLsb' 0 8
    (∃ i, decodeCommand w = .ok i) ↔
      w.extractLsb' 26 2 = 0 ∧ w.extractLsb' 8 8 = 0 ∧
      (((opc = 1 ∨ opc = 2) ∧ idx = 0 ∧ val = 0) ∨ (opc = 3 ∧ val = 0) ∨ opc = 4 ∨ (opc = 5 ∧ val = 0))

/-- R77, R78, R82 and vectors T22, T24: sample words of every family. -/
def Obligations.SampleWordsDecode : Prop :=
  decodeCommand 0x10000000#32 = .ok .start ∧ decodeCommand 0x20000000#32 = .ok .stop ∧
  decodeCommand 0x33FF0000#32 = .ok (.setslots 1023) ∧ decodeCommand 0x4001000A#32 = .ok (.wrslot 1 0x0A) ∧
  decodeCommand 0x420000FF#32 = .ok (.wrslot 512 0xFF) ∧ decodeCommand 0x50020000#32 = .ok (.rdslot 2) ∧
  decodeState 3#3 = .ok .txeIdle ∧ decodeState 4#3 = .ok .txeBreakSent ∧
  decodePop 0x2003#16 = .ok (.cfgline .brk .brk) ∧ decodePop 0x8000#16 = .ok .txieOff ∧
  decodePop 0xA01E#16 = .ok (.txwrite 0x1E)

/-- R37, R78: the code `o_state` shows is the state's, the code's table row is the arm that runs, and the codes 5, 6 and 7 name
no state and no arm. -/
def Obligations.StateCodesSelectTheArms : Prop :=
  (∀ s : State, TxState.ofCode s.oState = some s.txState ∧ decodeState s.oState = .ok (armOf s.txState)) ∧
  (∀ c : StateCode, 5 ≤ c.toNat → TxState.ofCode c = none ∧ decodeState c = .error (.reservedState c))

/-! Invariants. -/

/-- R47: "the invariants of section 8 hold from the first cycle", for every parameter record that meets its constraints. The
second conjunct is about `State.reset`, whose reference parameters are log entry 2: that they meet the constraints. -/
def Obligations.InvariantsHoldAtReset : Prop :=
  (∀ p : Params, p.Valid → Inv (State.resetWith p)) ∧ Inv State.reset

/-- R41 to R46: "preserved by every step". -/
def Obligations.InvariantsAreKeptByEveryStep : Prop :=
  ∀ s t : State, Inv s → step s = .next t → Inv t

/-- The canonical form of the slot buffer is kept by every step, in good states and bad. -/
def Obligations.BufferFormIsKeptByEveryStep : Prop :=
  ∀ s t : State, Memory.wf s.buf → step s = .next t → Memory.wf t.buf

/-- R12, R54, R160: from a good state every enabled input has its step, and no step faults. That every command word has a step
is the model's choice for a reserved word (log entry 4) and for an out-of-range WRSLOT, RDSLOT or SETSLOTS (log entry 3); that
`rst` is an input is log entry 6. -/
def Obligations.EnabledInputsHaveTheirStep : Prop :=
  ∀ (s : State) (x : Input) (rest : List Input), Inv s → s.inputs = x :: rest →
    (inputEnabled x s = true ↔ ∃ t, step s = .next t) ∧ ∀ r, step s ≠ .fault r

/-- R10, R29: no register of a good state exceeds its width, so no increment ever wraps. -/
def Obligations.RegistersFitTheirWidths : Prop :=
  ∀ s : State, Inv s → s.cursor < 2 ^ 10 ∧ s.idleCount < 2 ^ 8 ∧ s.slotsCfg < 2 ^ 10 ∧ s.slotsLatch < 2 ^ 10 ∧
    ∀ c ∈ s.buf, c.1 < bufferCapacity s.params

/-! The slot buffer in a run. -/

/-- R60: a read returns the value of the last WRSLOT to its index in an earlier step: steps none of whose inputs writes the
index, or resets the block, leave it as it was. -/
def Obligations.BufferKeepsTheLastWrite : Prop :=
  ∀ (k : Nat) (s t : State) (idx : Nat), Inv s → Host.Core.run core k s = .next t →
    (∀ x ∈ s.inputs.take k, x ≠ .rst ∧ ∀ (w : CommandWord) (v : Byte), x = .cmd w → decodeCommand w ≠ .ok (.wrslot idx v)) →
    Memory.read t.buf idx = Memory.read s.buf idx

/-- R61, V7: in a DATA phase, a slot written before it is sent goes out with its new value, and a slot already sent is not
sent again: the rest of the frame is the buffer as written. -/
def Obligations.WriteDuringDataPhase : Prop :=
  ∀ (s : State) (k : Nat) (v : Byte) (m : Nat) (rest : List Input), Inv s → s.txState = .data → s.txie = true →
    k ≤ s.params.maxSlots → m ≤ s.slotsLatch + 1 - s.cursor →
    s.inputs = scriptWrslot k v :: (scriptTxe m ++ rest) →
    ∃ t, Host.Core.run core (m + 1) s = .next t ∧ t.inputs = rest ∧ t.cursor = s.cursor + m ∧
      t.popTrace = s.popTrace ++ (List.range m).map (fun j =>
        .txwrite (if s.cursor + j = k then v else Memory.read s.buf (s.cursor + j)))

/-- R58: entries above `SLOTS_LATCH` are "held but not sent": what an event does, emits and leaves does not depend on them. -/
def Obligations.UnsentEntriesAreNotObserved : Prop :=
  ∀ (s t : State) (b : Memory) (rest : List Input), Inv s → s.inputs = .txe :: rest →
    (∀ j, j ≤ s.slotsLatch → Memory.read b j = Memory.read s.buf j) →
    step s = .next t → step { s with buf := b } = .next { t with buf := b }

/-- R65: a SETSLOTS between two events of a DATA phase changes nothing of that phase. -/
def Obligations.SlotCountHasNoMidFrameEffect : Prop :=
  ∀ (s t : State) (count : Nat), exec .txeData s = .next t →
    ∃ u, exec (.setslots count) s = .next u ∧ ∃ u', exec .txeData u = .next u' ∧ exec (.setslots count) t = .next u'

/-! The frame cycle. -/

/-- R128: under any inputs but START, STOP and reset, `STATE` stays or goes to the next of the cycle, and only on an event;
BREAK and START are left on every event. -/
def Obligations.StatesFollowTheCycle : Prop :=
  ∀ (s t : State) (x : Input) (rest : List Input), s.popFetch = none → s.inputs = x :: rest → x ≠ .rst →
    (∀ w, x = .cmd w → decodeCommand w ≠ .ok .start ∧ decodeCommand w ≠ .ok .stop) → step s = .next t →
    (t.txState = s.txState ∨ (x = .txe ∧ t.txState = cycleNext s.txState)) ∧
    (x = .txe → s.txState = .brk ∨ s.txState = .start → t.txState = cycleNext s.txState)

/-- R129, R130, R131: from the start of IDLE, one frame takes exactly `N + DATA_SETTLE + BREAK_SETTLE + 4` events, emits
exactly its trace, and comes back to the start of IDLE. -/
def Obligations.FrameOfEvents : Prop :=
  ∀ (s : State) (rest : List Input), Inv s → s.txState = .idle → s.idleCount = 0 → s.txie = true →
    s.inputs = scriptFrame s.params s.slotsCfg ++ rest →
    ∃ t, Host.Core.run core (frameEvents s.params s.slotsCfg) s = .next t ∧
      t.inputs = rest ∧ t.txState = .idle ∧ t.idleCount = 0 ∧ t.slotsLatch = s.slotsCfg ∧
      t.cursor = s.slotsCfg + 1 ∧ t.lineBaud = .data ∧ t.lineFmt = .data ∧ t.buf = s.buf ∧ t.txie = true ∧
      t.popTrace = s.popTrace ++ frameTrace s.buf s.slotsCfg ∧ t.responses = s.responses ∧
      (frameTrace s.buf s.slotsCfg).length = s.slotsCfg + 4

/-- R130: the position of the first break byte and the first start code after a START that found the block inactive: each is
emitted by its own event, and the event before it leaves the trace without it. -/
def Obligations.FirstFrameAfterStart : Prop :=
  ∀ (s : State) (rest : List Input), Inv s → s.active = false →
    s.inputs = scriptStart :: (scriptTxe (s.params.dataSettle + s.params.breakSettle + 4) ++ rest) →
    (∃ t, Host.Core.run core (1 + (s.params.dataSettle + 1)) s = .next t ∧
      t.popTrace = s.popTrace ++ [.flush, .cfgline .data .data, .txieOn] ∧ t.txState = .brk) ∧
    (∃ t, Host.Core.run core (1 + (s.params.dataSettle + 2)) s = .next t ∧
      t.popTrace = s.popTrace ++ [.flush, .cfgline .data .data, .txieOn, .cfgline .brk .brk, .txwrite 0x00]) ∧
    (∃ t, Host.Core.run core (1 + (s.params.dataSettle + s.params.breakSettle + 3)) s = .next t ∧ t.txState = .start ∧
      t.popTrace = s.popTrace ++ [.flush, .cfgline .data .data, .txieOn, .cfgline .brk .brk, .txwrite 0x00]) ∧
    (∃ t, Host.Core.run core (1 + (s.params.dataSettle + s.params.breakSettle + 4)) s = .next t ∧
      t.inputs = rest ∧ t.txState = .data ∧ t.slotsLatch = s.slotsCfg ∧
      t.popPort = [.cfgline .data .data, .txwrite (Memory.read s.buf 0)] ∧
      t.popTrace = s.popTrace ++ [.flush, .cfgline .data .data, .txieOn, .cfgline .brk .brk, .txwrite 0x00,
        .cfgline .data .data, .txwrite (Memory.read s.buf 0)])

/-- R167: on a weakly fair run with no STOP and no reset, an active block reaches every state of the frame cycle again and
again, so every frame is sent. -/
def Obligations.FramesNeverCease : Prop :=
  ∀ (σ : Nat → Input) (r : Nat → State), RunsOn σ r → WeaklyFair σ r → Inv (r 0) → (r 0).txie = true →
    (∀ n, σ n ≠ .rst ∧ ∀ w, σ n = .cmd w → decodeCommand w ≠ .ok .stop) →
    ∀ (n : Nat) (x : TxState), ∃ m, n ≤ m ∧ (r m).txState = x

/-! The pins. -/

/-- R140, R151: the operations of one step stand on the POP port in consecutive cycles, in order, the first in the step's own
cycle (log entry 7), and in the others no command and no event is taken. A step that emits none is over in its own cycle, with
`pop_valid = 0`. Either way the state at the end is the step's. -/
def Obligations.StepIsPresentedInOrder : Prop :=
  ∀ (s t : State) (p : PortIn) (x : Input), portInput s p = some x → stepOn x s = .next t →
    (t.popPort = [] → ∃ o, portCycle s p = .next (o, t) ∧ o.popValid = false) ∧
    (∀ ps : List PortIn, t.popPort.length = ps.length + 1 → (∀ q ∈ ps, q.rst = false) →
      ∃ os u, portRun s (p :: ps) = .next (os, u) ∧
        os.map (fun o => (o.popValid, o.popWord)) = t.popPort.map (fun q => (true, q.word)) ∧
        (∀ o ∈ os.tail, o.cmdReady = false ∧ o.txeAck = false) ∧
        u = { t with popPort := [] })

/-- R106, R140, R168, R169: which input a cycle takes, that its next state is then the step's with one operation presented, and
what the outputs show. A cycle that takes none presents the next operation of an earlier step, if one is left. The
cycle in which each output shows is log entry 7. -/
def Obligations.PortHandshake : Prop :=
  ∀ (s t : State) (p : PortIn) (o : PortOut), p.rst = false → portCycle s p = .next (o, t) →
    (o.txeAck = true ↔ s.popPort = [] ∧ p.txeReq = true ∧ s.txie = true) ∧
    (o.cmdReady = true ↔ s.popPort = [] ∧ o.txeAck = false) ∧
    (o.txeAck = true → portInput s p = some .txe) ∧
    (o.cmdReady = true → p.cmdValid = true → portInput s p = some (.cmd p.cmdWord)) ∧
    (∀ x, portInput s p = some x → ∃ u, stepOn x s = .next u ∧ t = { u with popPort := u.popPort.tail } ∧
      (o.popValid = true ↔ u.popPort ≠ [])) ∧
    (o.txeAck = false → (o.cmdReady = false ∨ p.cmdValid = false) →
      t = { s with popPort := s.popPort.tail, rspPort := none } ∧ (o.popValid = true ↔ s.popPort ≠ [])) ∧
    (o.rspValid = true ↔ s.rspPort ≠ none) ∧ (∀ v, s.rspPort = some v → o.rspData = v) ∧
    o.lineDiv = s.lineDiv ∧ o.oActive = s.active ∧ o.oState = s.txState.code

/-- R106: an RDSLOT taken in one cycle has its response on the port in the next, and in no other, whatever comes. -/
def Obligations.ResponseInTheNextCycle : Prop :=
  ∀ (s : State) (p q : PortIn) (o o' : PortOut) (t u : State), p.rst = false → q.rst = false →
    portCycle s p = .next (o, t) → portCycle t q = .next (o', u) →
    (o'.rspValid = true ↔ ∃ idx, portInput s p = some (.cmd p.cmdWord) ∧ decodeCommand p.cmdWord = .ok (.rdslot idx)) ∧
    (∀ idx, portInput s p = some (.cmd p.cmdWord) → decodeCommand p.cmdWord = .ok (.rdslot idx) →
      idx ≤ s.params.maxSlots → o'.rspData = Memory.read s.buf idx)
end

