-- ==== Sys2Proof/Laws/Decode.lean ====
section
/-! SUPPORT. The bits of the words, field by field: what it is for a word to fit a row of the opcode table
(spec/30_encoding.md R71 to R74, R79 to R82). The provers cite these instead of opening a word. -/

namespace Sys2Proof

theorem append_eq_append_iff_fields {a b : Nat} (x x' : BitVec a) (y y' : BitVec b) :
    x ++ y = x' ++ y' ↔ x = x' ∧ y = y' := by
  constructor
  · intro h
    have h1 := congrArg (BitVec.extractLsb' b a) h
    have h2 := congrArg (BitVec.setWidth b) h
    simp only [BitVec.extractLsb'_append_eq_left, BitVec.setWidth_append_eq_right] at h1 h2
    exact ⟨h1, h2⟩
  · rintro ⟨rfl, rfl⟩; rfl

theorem append_and_eq_iff {a b : Nat} (x m v : BitVec a) (y n u : BitVec b) :
    (x ++ y) &&& (m ++ n) = v ++ u ↔ x &&& m = v ∧ y &&& n = u := by
  rw [BitVec.and_append, append_eq_append_iff_fields]

/-- R72 for a word of five fields: `(w AND mask) = match` field by field. -/
theorem fields_and_eq_iff {a b c d e : Nat} (x1 m1 v1 : BitVec a) (x2 m2 v2 : BitVec b) (x3 m3 v3 : BitVec c)
    (x4 m4 v4 : BitVec d) (x5 m5 v5 : BitVec e) :
    (x1 ++ x2 ++ x3 ++ x4 ++ x5) &&& (m1 ++ m2 ++ m3 ++ m4 ++ m5) = v1 ++ v2 ++ v3 ++ v4 ++ v5 ↔
      x1 &&& m1 = v1 ∧ x2 &&& m2 = v2 ∧ x3 &&& m3 = v3 ∧ x4 &&& m4 = v4 ∧ x5 &&& m5 = v5 := by
  simp only [append_and_eq_iff, and_assoc]

theorem and_of_ones {n : Nat} {m : BitVec n} (h : m = BitVec.allOnes n) (x : BitVec n) : x &&& m = x := by
  subst h; simp

/-! Format C. -/

/-- R71: a command word is its five fields. -/
theorem command_fields (w : CommandWord) :
    w = w.extractLsb' 28 4 ++ w.extractLsb' 26 2 ++ w.extractLsb' 16 10 ++ w.extractLsb' 8 8 ++ w.extractLsb' 0 8 := by
  apply BitVec.eq_of_getLsbD_eq
  intro k hk
  simp only [BitVec.getLsbD_append, BitVec.getLsbD_extractLsb']
  interval_cases k <;> simp

/-- R77: "Each is `OPC << 28 | IDX << 16 | VAL`". -/
theorem commandWord_eq_or (opc : BitVec 4) (idx : BitVec 10) (val : Byte) :
    commandWord opc idx val = (opc.setWidth 32 <<< 28) ||| (idx.setWidth 32 <<< 16) ||| val.setWidth 32 := by
  apply BitVec.eq_of_getLsbD_eq
  intro k hk
  simp only [commandWord, BitVec.getLsbD_append, BitVec.getLsbD_or, BitVec.getLsbD_shiftLeft, BitVec.getLsbD_setWidth]
  interval_cases k <;> simp

/-- R75: the index field of a built word. -/
theorem fieldIdx_commandWord (opc : BitVec 4) (idx : BitVec 10) (val : Byte) :
    fieldIdx (commandWord opc idx val) = idx.toNat := by
  unfold fieldIdx
  congr 1
  apply BitVec.eq_of_getLsbD_eq
  intro k hk
  simp only [commandWord, BitVec.getLsbD_append, BitVec.getLsbD_extractLsb']
  interval_cases k <;> simp

/-- R76: the value field of a built word. -/
theorem fieldVal_commandWord (opc : BitVec 4) (idx : BitVec 10) (val : Byte) :
    fieldVal (commandWord opc idx val) = val := by
  unfold fieldVal
  apply BitVec.eq_of_getLsbD_eq
  intro k hk
  simp only [commandWord, BitVec.getLsbD_append, BitVec.getLsbD_extractLsb']
  interval_cases k <;> simp

/-- R72: a command word fits a row field by field. -/
theorem command_rowFits_iff (w : CommandWord) (mo vo : BitVec 4) (m1 v1 : BitVec 2) (mi vi : BitVec 10)
    (m0 v0 mv vv : BitVec 8) (f : CommandWord → Instr) :
    rowFits w ⟨vo ++ v1 ++ vi ++ v0 ++ vv, mo ++ m1 ++ mi ++ m0 ++ mv, f⟩ = true ↔
      w.extractLsb' 28 4 &&& mo = vo ∧ w.extractLsb' 26 2 &&& m1 = v1 ∧ w.extractLsb' 16 10 &&& mi = vi ∧
      w.extractLsb' 8 8 &&& m0 = v0 ∧ w.extractLsb' 0 8 &&& mv = vv := by
  unfold rowFits
  conv_lhs => rw [command_fields w]
  rw [beq_iff_eq]
  exact fields_and_eq_iff ..

theorem rowFits_start (w : CommandWord) (f : CommandWord → Instr) :
    rowFits w ⟨0x10000000#32, 0xFFFFFFFF#32, f⟩ = true ↔ w.extractLsb' 28 4 = 1#4 ∧ w.extractLsb' 26 2 = 0#2 ∧
      w.extractLsb' 16 10 = 0#10 ∧ w.extractLsb' 8 8 = 0#8 ∧ w.extractLsb' 0 8 = 0#8 := by
  have h := command_rowFits_iff w 15#4 1#4 3#2 0#2 1023#10 0#10 255#8 0#8 255#8 0#8 f
  simp only [and_of_ones (show 15#4 = _ from rfl), and_of_ones (show 3#2 = _ from rfl),
    and_of_ones (show 1023#10 = _ from rfl), and_of_ones (show 255#8 = _ from rfl)] at h
  exact h

theorem rowFits_stop (w : CommandWord) (f : CommandWord → Instr) :
    rowFits w ⟨0x20000000#32, 0xFFFFFFFF#32, f⟩ = true ↔ w.extractLsb' 28 4 = 2#4 ∧ w.extractLsb' 26 2 = 0#2 ∧
      w.extractLsb' 16 10 = 0#10 ∧ w.extractLsb' 8 8 = 0#8 ∧ w.extractLsb' 0 8 = 0#8 := by
  have h := command_rowFits_iff w 15#4 2#4 3#2 0#2 1023#10 0#10 255#8 0#8 255#8 0#8 f
  simp only [and_of_ones (show 15#4 = _ from rfl), and_of_ones (show 3#2 = _ from rfl),
    and_of_ones (show 1023#10 = _ from rfl), and_of_ones (show 255#8 = _ from rfl)] at h
  exact h

theorem rowFits_setslots (w : CommandWord) (f : CommandWord → Instr) :
    rowFits w ⟨0x30000000#32, 0xFC00FFFF#32, f⟩ = true ↔ w.extractLsb' 28 4 = 3#4 ∧ w.extractLsb' 26 2 = 0#2 ∧
      w.extractLsb' 8 8 = 0#8 ∧ w.extractLsb' 0 8 = 0#8 := by
  have h := command_rowFits_iff w 15#4 3#4 3#2 0#2 0#10 0#10 255#8 0#8 255#8 0#8 f
  simp only [and_of_ones (show 15#4 = _ from rfl), and_of_ones (show 3#2 = _ from rfl),
    and_of_ones (show 255#8 = _ from rfl), BitVec.and_zero, true_and] at h
  exact h

theorem rowFits_wrslot (w : CommandWord) (f : CommandWord → Instr) :
    rowFits w ⟨0x40000000#32, 0xFC00FF00#32, f⟩ = true ↔ w.extractLsb' 28 4 = 4#4 ∧ w.extractLsb' 26 2 = 0#2 ∧
      w.extractLsb' 8 8 = 0#8 := by
  have h := command_rowFits_iff w 15#4 4#4 3#2 0#2 0#10 0#10 255#8 0#8 0#8 0#8 f
  simp only [and_of_ones (show 15#4 = _ from rfl), and_of_ones (show 3#2 = _ from rfl),
    and_of_ones (show 255#8 = _ from rfl), BitVec.and_zero, true_and, and_true] at h
  exact h

theorem rowFits_rdslot (w : CommandWord) (f : CommandWord → Instr) :
    rowFits w ⟨0x50000000#32, 0xFC00FFFF#32, f⟩ = true ↔ w.extractLsb' 28 4 = 5#4 ∧ w.extractLsb' 26 2 = 0#2 ∧
      w.extractLsb' 8 8 = 0#8 ∧ w.extractLsb' 0 8 = 0#8 := by
  have h := command_rowFits_iff w 15#4 5#4 3#2 0#2 0#10 0#10 255#8 0#8 255#8 0#8 f
  simp only [and_of_ones (show 15#4 = _ from rfl), and_of_ones (show 3#2 = _ from rfl),
    and_of_ones (show 255#8 = _ from rfl), BitVec.and_zero, true_and] at h
  exact h

/-! Format P. -/

/-- R79, R81: a peripheral word is its fields, `PARG` cut where CFGLINE cuts it. -/
theorem pop_fields (w : PopWord) :
    w = w.extractLsb' 13 3 ++ w.extractLsb' 8 5 ++ w.extractLsb' 2 6 ++ w.extractLsb' 1 1 ++ w.extractLsb' 0 1 := by
  apply BitVec.eq_of_getLsbD_eq
  intro k hk
  simp only [BitVec.getLsbD_append, BitVec.getLsbD_extractLsb']
  interval_cases k <;> simp

/-- R72: a peripheral word fits a row field by field. -/
theorem pop_rowFits_iff (w : PopWord) (mp vp : BitVec 3) (mz vz : BitVec 5) (ma va : BitVec 6) (m1 v1 m0 v0 : BitVec 1)
    (f : PopWord → Instr) :
    rowFits w ⟨vp ++ vz ++ va ++ v1 ++ v0, mp ++ mz ++ ma ++ m1 ++ m0, f⟩ = true ↔
      w.extractLsb' 13 3 &&& mp = vp ∧ w.extractLsb' 8 5 &&& mz = vz ∧ w.extractLsb' 2 6 &&& ma = va ∧
      w.extractLsb' 1 1 &&& m1 = v1 ∧ w.extractLsb' 0 1 &&& m0 = v0 := by
  unfold rowFits
  conv_lhs => rw [pop_fields w]
  rw [beq_iff_eq]
  exact fields_and_eq_iff ..

theorem rowFits_cfgline (w : PopWord) (f : PopWord → Instr) :
    rowFits w ⟨0x2000#16, 0xFFFC#16, f⟩ = true ↔
      w.extractLsb' 13 3 = 1#3 ∧ w.extractLsb' 8 5 = 0#5 ∧ w.extractLsb' 2 6 = 0#6 := by
  have h := pop_rowFits_iff w 7#3 1#3 31#5 0#5 63#6 0#6 0#1 0#1 0#1 0#1 f
  simp only [and_of_ones (show 7#3 = _ from rfl), and_of_ones (show 31#5 = _ from rfl),
    and_of_ones (show 63#6 = _ from rfl), BitVec.and_zero, and_true] at h
  exact h

theorem rowFits_flush (w : PopWord) (f : PopWord → Instr) :
    rowFits w ⟨0x4000#16, 0xFFFF#16, f⟩ = true ↔ w = 0x4000#16 := by
  rw [rowFits, beq_iff_eq, and_of_ones (by rfl)]

theorem rowFits_txieOn (w : PopWord) (f : PopWord → Instr) :
    rowFits w ⟨0x6000#16, 0xFFFF#16, f⟩ = true ↔ w = 0x6000#16 := by
  rw [rowFits, beq_iff_eq, and_of_ones (by rfl)]

theorem rowFits_txieOff (w : PopWord) (f : PopWord → Instr) :
    rowFits w ⟨0x8000#16, 0xFFFF#16, f⟩ = true ↔ w = 0x8000#16 := by
  rw [rowFits, beq_iff_eq, and_of_ones (by rfl)]

theorem rowFits_txwrite (w : PopWord) (f : PopWord → Instr) :
    rowFits w ⟨0xA000#16, 0xFF00#16, f⟩ = true ↔ w.extractLsb' 13 3 = 5#3 ∧ w.extractLsb' 8 5 = 0#5 := by
  have h := pop_rowFits_iff w 7#3 5#3 31#5 0#5 0#6 0#6 0#1 0#1 0#1 0#1 f
  simp only [and_of_ones (show 7#3 = _ from rfl), and_of_ones (show 31#5 = _ from rfl),
    BitVec.and_zero, and_true] at h
  exact h

/-! The decoders as a whole. -/

/-- A decoded word fits a row, and the operation is that row's. -/
theorem decodeWith_some {n : Nat} {rows : List (Row n)} {w : BitVec n} {i : Instr} (h : decodeWith rows w = some i) :
    ∃ r ∈ rows, rowFits w r = true ∧ i = r.build w := by
  unfold decodeWith at h
  cases hf : rows.find? (rowFits w) with
  | none => rw [hf] at h; cases h
  | some r =>
    rw [hf] at h
    exact ⟨r, List.mem_of_find?_eq_some hf, List.find?_some hf, by simpa using h.symm⟩

/-- A word that decodes to nothing fits no row. -/
theorem decodeWith_none {n : Nat} {rows : List (Row n)} {w : BitVec n} (h : decodeWith rows w = none) :
    ∀ r ∈ rows, rowFits w r = false := by
  intro r hr
  unfold decodeWith at h
  rw [Option.map_eq_none_iff, List.find?_eq_none] at h
  simpa using h r hr

theorem decodeCommand_ok_iff (w : CommandWord) (i : Instr) :
    decodeCommand w = .ok i ↔ decodeWith commandRows w = some i := by
  unfold decodeCommand
  cases decodeWith commandRows w <;> simp

theorem decodeState_ok_iff (c : StateCode) (i : Instr) :
    decodeState c = .ok i ↔ decodeWith stateRows c = some i := by
  unfold decodeState
  cases decodeWith stateRows c <;> simp

theorem decodePop_ok_iff (p : PopWord) (i : Instr) :
    decodePop p = .ok i ↔ decodeWith popRows p = some i := by
  unfold decodePop
  cases decodeWith popRows p <;> simp

/-- What a command word decodes to is one of the five host commands. -/
theorem decodeCommand_shape {w : CommandWord} {i : Instr} (h : decodeCommand w = .ok i) :
    i = .start ∨ i = .stop ∨ (∃ n, i = .setslots n) ∨ (∃ k v, i = .wrslot k v) ∨ (∃ k, i = .rdslot k) := by
  rw [decodeCommand_ok_iff] at h
  obtain ⟨r, hr, _, rfl⟩ := decodeWith_some h
  simp only [commandRows, List.mem_cons, List.not_mem_nil, or_false] at hr
  rcases hr with rfl | rfl | rfl | rfl | rfl <;> simp

end Sys2Proof
end

