-- ==== Sys2Proof/Laws/State.lean ====
section
/-! SUPPORT. One lemma per field per update of the state, each true by unfolding the update, so that no later proof unfolds
one. The updates are those of Machine/Ops.lean. -/

namespace Sys2Proof.Machine

open Sys2Proof

/-! `State.emit` (R15). -/

@[simp] theorem State.emit_txState (s : State) (p : Pop) : (s.emit p).txState = s.txState := rfl
@[simp] theorem State.emit_cursor (s : State) (p : Pop) : (s.emit p).cursor = s.cursor := rfl
@[simp] theorem State.emit_idleCount (s : State) (p : Pop) : (s.emit p).idleCount = s.idleCount := rfl
@[simp] theorem State.emit_slotsLatch (s : State) (p : Pop) : (s.emit p).slotsLatch = s.slotsLatch := rfl
@[simp] theorem State.emit_active (s : State) (p : Pop) : (s.emit p).active = s.active := rfl
@[simp] theorem State.emit_slotsCfg (s : State) (p : Pop) : (s.emit p).slotsCfg = s.slotsCfg := rfl
@[simp] theorem State.emit_txie (s : State) (p : Pop) : (s.emit p).txie = s.txie := rfl
@[simp] theorem State.emit_lineBaud (s : State) (p : Pop) : (s.emit p).lineBaud = s.lineBaud := rfl
@[simp] theorem State.emit_lineFmt (s : State) (p : Pop) : (s.emit p).lineFmt = s.lineFmt := rfl
@[simp] theorem State.emit_buf (s : State) (p : Pop) : (s.emit p).buf = s.buf := rfl
@[simp] theorem State.emit_popPort (s : State) (p : Pop) : (s.emit p).popPort = s.popPort ++ [p] := rfl
@[simp] theorem State.emit_rspPort (s : State) (p : Pop) : (s.emit p).rspPort = s.rspPort := rfl
@[simp] theorem State.emit_params (s : State) (p : Pop) : (s.emit p).params = s.params := rfl
@[simp] theorem State.emit_inputs (s : State) (p : Pop) : (s.emit p).inputs = s.inputs := rfl
@[simp] theorem State.emit_popFetch (s : State) (p : Pop) : (s.emit p).popFetch = s.popFetch := rfl
@[simp] theorem State.emit_popTrace (s : State) (p : Pop) : (s.emit p).popTrace = s.popTrace ++ [p] := rfl
@[simp] theorem State.emit_responses (s : State) (p : Pop) : (s.emit p).responses = s.responses := rfl

/-! `State.respond` (R15). -/

@[simp] theorem State.respond_txState (s : State) (v : Byte) : (s.respond v).txState = s.txState := rfl
@[simp] theorem State.respond_cursor (s : State) (v : Byte) : (s.respond v).cursor = s.cursor := rfl
@[simp] theorem State.respond_idleCount (s : State) (v : Byte) : (s.respond v).idleCount = s.idleCount := rfl
@[simp] theorem State.respond_slotsLatch (s : State) (v : Byte) : (s.respond v).slotsLatch = s.slotsLatch := rfl
@[simp] theorem State.respond_active (s : State) (v : Byte) : (s.respond v).active = s.active := rfl
@[simp] theorem State.respond_slotsCfg (s : State) (v : Byte) : (s.respond v).slotsCfg = s.slotsCfg := rfl
@[simp] theorem State.respond_txie (s : State) (v : Byte) : (s.respond v).txie = s.txie := rfl
@[simp] theorem State.respond_lineBaud (s : State) (v : Byte) : (s.respond v).lineBaud = s.lineBaud := rfl
@[simp] theorem State.respond_lineFmt (s : State) (v : Byte) : (s.respond v).lineFmt = s.lineFmt := rfl
@[simp] theorem State.respond_buf (s : State) (v : Byte) : (s.respond v).buf = s.buf := rfl
@[simp] theorem State.respond_popPort (s : State) (v : Byte) : (s.respond v).popPort = s.popPort := rfl
@[simp] theorem State.respond_rspPort (s : State) (v : Byte) : (s.respond v).rspPort = some v := rfl
@[simp] theorem State.respond_params (s : State) (v : Byte) : (s.respond v).params = s.params := rfl
@[simp] theorem State.respond_inputs (s : State) (v : Byte) : (s.respond v).inputs = s.inputs := rfl
@[simp] theorem State.respond_popFetch (s : State) (v : Byte) : (s.respond v).popFetch = s.popFetch := rfl
@[simp] theorem State.respond_popTrace (s : State) (v : Byte) : (s.respond v).popTrace = s.popTrace := rfl
@[simp] theorem State.respond_responses (s : State) (v : Byte) : (s.respond v).responses = s.responses ++ [v] := rfl

/-! `State.configureLine` (R141). -/

@[simp] theorem State.configureLine_txState (s : State) (b : Baud) (f : Fmt) : (s.configureLine b f).txState = s.txState := rfl
@[simp] theorem State.configureLine_cursor (s : State) (b : Baud) (f : Fmt) : (s.configureLine b f).cursor = s.cursor := rfl
@[simp] theorem State.configureLine_idleCount (s : State) (b : Baud) (f : Fmt) : (s.configureLine b f).idleCount = s.idleCount := rfl
@[simp] theorem State.configureLine_slotsLatch (s : State) (b : Baud) (f : Fmt) : (s.configureLine b f).slotsLatch = s.slotsLatch := rfl
@[simp] theorem State.configureLine_active (s : State) (b : Baud) (f : Fmt) : (s.configureLine b f).active = s.active := rfl
@[simp] theorem State.configureLine_slotsCfg (s : State) (b : Baud) (f : Fmt) : (s.configureLine b f).slotsCfg = s.slotsCfg := rfl
@[simp] theorem State.configureLine_txie (s : State) (b : Baud) (f : Fmt) : (s.configureLine b f).txie = s.txie := rfl
@[simp] theorem State.configureLine_lineBaud (s : State) (b : Baud) (f : Fmt) : (s.configureLine b f).lineBaud = b := rfl
@[simp] theorem State.configureLine_lineFmt (s : State) (b : Baud) (f : Fmt) : (s.configureLine b f).lineFmt = f := rfl
@[simp] theorem State.configureLine_buf (s : State) (b : Baud) (f : Fmt) : (s.configureLine b f).buf = s.buf := rfl
@[simp] theorem State.configureLine_popPort (s : State) (b : Baud) (f : Fmt) : (s.configureLine b f).popPort = s.popPort ++ [.cfgline b f] := rfl
@[simp] theorem State.configureLine_rspPort (s : State) (b : Baud) (f : Fmt) : (s.configureLine b f).rspPort = s.rspPort := rfl
@[simp] theorem State.configureLine_params (s : State) (b : Baud) (f : Fmt) : (s.configureLine b f).params = s.params := rfl
@[simp] theorem State.configureLine_inputs (s : State) (b : Baud) (f : Fmt) : (s.configureLine b f).inputs = s.inputs := rfl
@[simp] theorem State.configureLine_popFetch (s : State) (b : Baud) (f : Fmt) : (s.configureLine b f).popFetch = s.popFetch := rfl
@[simp] theorem State.configureLine_popTrace (s : State) (b : Baud) (f : Fmt) : (s.configureLine b f).popTrace = s.popTrace ++ [.cfgline b f] := rfl
@[simp] theorem State.configureLine_responses (s : State) (b : Baud) (f : Fmt) : (s.configureLine b f).responses = s.responses := rfl

/-! `State.unmaskTxe` (R144). -/

@[simp] theorem State.unmaskTxe_txState (s : State) : (s.unmaskTxe).txState = s.txState := rfl
@[simp] theorem State.unmaskTxe_cursor (s : State) : (s.unmaskTxe).cursor = s.cursor := rfl
@[simp] theorem State.unmaskTxe_idleCount (s : State) : (s.unmaskTxe).idleCount = s.idleCount := rfl
@[simp] theorem State.unmaskTxe_slotsLatch (s : State) : (s.unmaskTxe).slotsLatch = s.slotsLatch := rfl
@[simp] theorem State.unmaskTxe_active (s : State) : (s.unmaskTxe).active = s.active := rfl
@[simp] theorem State.unmaskTxe_slotsCfg (s : State) : (s.unmaskTxe).slotsCfg = s.slotsCfg := rfl
@[simp] theorem State.unmaskTxe_txie (s : State) : (s.unmaskTxe).txie = true := rfl
@[simp] theorem State.unmaskTxe_lineBaud (s : State) : (s.unmaskTxe).lineBaud = s.lineBaud := rfl
@[simp] theorem State.unmaskTxe_lineFmt (s : State) : (s.unmaskTxe).lineFmt = s.lineFmt := rfl
@[simp] theorem State.unmaskTxe_buf (s : State) : (s.unmaskTxe).buf = s.buf := rfl
@[simp] theorem State.unmaskTxe_popPort (s : State) : (s.unmaskTxe).popPort = s.popPort ++ [.txieOn] := rfl
@[simp] theorem State.unmaskTxe_rspPort (s : State) : (s.unmaskTxe).rspPort = s.rspPort := rfl
@[simp] theorem State.unmaskTxe_params (s : State) : (s.unmaskTxe).params = s.params := rfl
@[simp] theorem State.unmaskTxe_inputs (s : State) : (s.unmaskTxe).inputs = s.inputs := rfl
@[simp] theorem State.unmaskTxe_popFetch (s : State) : (s.unmaskTxe).popFetch = s.popFetch := rfl
@[simp] theorem State.unmaskTxe_popTrace (s : State) : (s.unmaskTxe).popTrace = s.popTrace ++ [.txieOn] := rfl
@[simp] theorem State.unmaskTxe_responses (s : State) : (s.unmaskTxe).responses = s.responses := rfl

/-! `State.maskTxe` (R145). -/

@[simp] theorem State.maskTxe_txState (s : State) : (s.maskTxe).txState = s.txState := rfl
@[simp] theorem State.maskTxe_cursor (s : State) : (s.maskTxe).cursor = s.cursor := rfl
@[simp] theorem State.maskTxe_idleCount (s : State) : (s.maskTxe).idleCount = s.idleCount := rfl
@[simp] theorem State.maskTxe_slotsLatch (s : State) : (s.maskTxe).slotsLatch = s.slotsLatch := rfl
@[simp] theorem State.maskTxe_active (s : State) : (s.maskTxe).active = s.active := rfl
@[simp] theorem State.maskTxe_slotsCfg (s : State) : (s.maskTxe).slotsCfg = s.slotsCfg := rfl
@[simp] theorem State.maskTxe_txie (s : State) : (s.maskTxe).txie = false := rfl
@[simp] theorem State.maskTxe_lineBaud (s : State) : (s.maskTxe).lineBaud = s.lineBaud := rfl
@[simp] theorem State.maskTxe_lineFmt (s : State) : (s.maskTxe).lineFmt = s.lineFmt := rfl
@[simp] theorem State.maskTxe_buf (s : State) : (s.maskTxe).buf = s.buf := rfl
@[simp] theorem State.maskTxe_popPort (s : State) : (s.maskTxe).popPort = s.popPort ++ [.txieOff] := rfl
@[simp] theorem State.maskTxe_rspPort (s : State) : (s.maskTxe).rspPort = s.rspPort := rfl
@[simp] theorem State.maskTxe_params (s : State) : (s.maskTxe).params = s.params := rfl
@[simp] theorem State.maskTxe_inputs (s : State) : (s.maskTxe).inputs = s.inputs := rfl
@[simp] theorem State.maskTxe_popFetch (s : State) : (s.maskTxe).popFetch = s.popFetch := rfl
@[simp] theorem State.maskTxe_popTrace (s : State) : (s.maskTxe).popTrace = s.popTrace ++ [.txieOff] := rfl
@[simp] theorem State.maskTxe_responses (s : State) : (s.maskTxe).responses = s.responses := rfl

/-! `State.moveTo` (R21). -/

@[simp] theorem State.moveTo_txState (s : State) (x : TxState) : (s.moveTo x).txState = x := rfl
@[simp] theorem State.moveTo_cursor (s : State) (x : TxState) : (s.moveTo x).cursor = s.cursor := rfl
@[simp] theorem State.moveTo_idleCount (s : State) (x : TxState) : (s.moveTo x).idleCount = s.idleCount := rfl
@[simp] theorem State.moveTo_slotsLatch (s : State) (x : TxState) : (s.moveTo x).slotsLatch = s.slotsLatch := rfl
@[simp] theorem State.moveTo_active (s : State) (x : TxState) : (s.moveTo x).active = s.active := rfl
@[simp] theorem State.moveTo_slotsCfg (s : State) (x : TxState) : (s.moveTo x).slotsCfg = s.slotsCfg := rfl
@[simp] theorem State.moveTo_txie (s : State) (x : TxState) : (s.moveTo x).txie = s.txie := rfl
@[simp] theorem State.moveTo_lineBaud (s : State) (x : TxState) : (s.moveTo x).lineBaud = s.lineBaud := rfl
@[simp] theorem State.moveTo_lineFmt (s : State) (x : TxState) : (s.moveTo x).lineFmt = s.lineFmt := rfl
@[simp] theorem State.moveTo_buf (s : State) (x : TxState) : (s.moveTo x).buf = s.buf := rfl
@[simp] theorem State.moveTo_popPort (s : State) (x : TxState) : (s.moveTo x).popPort = s.popPort := rfl
@[simp] theorem State.moveTo_rspPort (s : State) (x : TxState) : (s.moveTo x).rspPort = s.rspPort := rfl
@[simp] theorem State.moveTo_params (s : State) (x : TxState) : (s.moveTo x).params = s.params := rfl
@[simp] theorem State.moveTo_inputs (s : State) (x : TxState) : (s.moveTo x).inputs = s.inputs := rfl
@[simp] theorem State.moveTo_popFetch (s : State) (x : TxState) : (s.moveTo x).popFetch = s.popFetch := rfl
@[simp] theorem State.moveTo_popTrace (s : State) (x : TxState) : (s.moveTo x).popTrace = s.popTrace := rfl
@[simp] theorem State.moveTo_responses (s : State) (x : TxState) : (s.moveTo x).responses = s.responses := rfl

/-! `State.countEvent` (R121, R123). -/

@[simp] theorem State.countEvent_txState (s : State) : (s.countEvent).txState = s.txState := rfl
@[simp] theorem State.countEvent_cursor (s : State) : (s.countEvent).cursor = s.cursor := rfl
@[simp] theorem State.countEvent_idleCount (s : State) : (s.countEvent).idleCount = s.idleCount + 1 := rfl
@[simp] theorem State.countEvent_slotsLatch (s : State) : (s.countEvent).slotsLatch = s.slotsLatch := rfl
@[simp] theorem State.countEvent_active (s : State) : (s.countEvent).active = s.active := rfl
@[simp] theorem State.countEvent_slotsCfg (s : State) : (s.countEvent).slotsCfg = s.slotsCfg := rfl
@[simp] theorem State.countEvent_txie (s : State) : (s.countEvent).txie = s.txie := rfl
@[simp] theorem State.countEvent_lineBaud (s : State) : (s.countEvent).lineBaud = s.lineBaud := rfl
@[simp] theorem State.countEvent_lineFmt (s : State) : (s.countEvent).lineFmt = s.lineFmt := rfl
@[simp] theorem State.countEvent_buf (s : State) : (s.countEvent).buf = s.buf := rfl
@[simp] theorem State.countEvent_popPort (s : State) : (s.countEvent).popPort = s.popPort := rfl
@[simp] theorem State.countEvent_rspPort (s : State) : (s.countEvent).rspPort = s.rspPort := rfl
@[simp] theorem State.countEvent_params (s : State) : (s.countEvent).params = s.params := rfl
@[simp] theorem State.countEvent_inputs (s : State) : (s.countEvent).inputs = s.inputs := rfl
@[simp] theorem State.countEvent_popFetch (s : State) : (s.countEvent).popFetch = s.popFetch := rfl
@[simp] theorem State.countEvent_popTrace (s : State) : (s.countEvent).popTrace = s.popTrace := rfl
@[simp] theorem State.countEvent_responses (s : State) : (s.countEvent).responses = s.responses := rfl

/-! `State.clearCount` (R23). -/

@[simp] theorem State.clearCount_txState (s : State) : (s.clearCount).txState = s.txState := rfl
@[simp] theorem State.clearCount_cursor (s : State) : (s.clearCount).cursor = s.cursor := rfl
@[simp] theorem State.clearCount_idleCount (s : State) : (s.clearCount).idleCount = 0 := rfl
@[simp] theorem State.clearCount_slotsLatch (s : State) : (s.clearCount).slotsLatch = s.slotsLatch := rfl
@[simp] theorem State.clearCount_active (s : State) : (s.clearCount).active = s.active := rfl
@[simp] theorem State.clearCount_slotsCfg (s : State) : (s.clearCount).slotsCfg = s.slotsCfg := rfl
@[simp] theorem State.clearCount_txie (s : State) : (s.clearCount).txie = s.txie := rfl
@[simp] theorem State.clearCount_lineBaud (s : State) : (s.clearCount).lineBaud = s.lineBaud := rfl
@[simp] theorem State.clearCount_lineFmt (s : State) : (s.clearCount).lineFmt = s.lineFmt := rfl
@[simp] theorem State.clearCount_buf (s : State) : (s.clearCount).buf = s.buf := rfl
@[simp] theorem State.clearCount_popPort (s : State) : (s.clearCount).popPort = s.popPort := rfl
@[simp] theorem State.clearCount_rspPort (s : State) : (s.clearCount).rspPort = s.rspPort := rfl
@[simp] theorem State.clearCount_params (s : State) : (s.clearCount).params = s.params := rfl
@[simp] theorem State.clearCount_inputs (s : State) : (s.clearCount).inputs = s.inputs := rfl
@[simp] theorem State.clearCount_popFetch (s : State) : (s.clearCount).popFetch = s.popFetch := rfl
@[simp] theorem State.clearCount_popTrace (s : State) : (s.clearCount).popTrace = s.popTrace := rfl
@[simp] theorem State.clearCount_responses (s : State) : (s.clearCount).responses = s.responses := rfl

/-! `State.advance` (R124, R125). -/

@[simp] theorem State.advance_txState (s : State) : (s.advance).txState = s.txState := rfl
@[simp] theorem State.advance_cursor (s : State) : (s.advance).cursor = s.cursor + 1 := rfl
@[simp] theorem State.advance_idleCount (s : State) : (s.advance).idleCount = s.idleCount := rfl
@[simp] theorem State.advance_slotsLatch (s : State) : (s.advance).slotsLatch = s.slotsLatch := rfl
@[simp] theorem State.advance_active (s : State) : (s.advance).active = s.active := rfl
@[simp] theorem State.advance_slotsCfg (s : State) : (s.advance).slotsCfg = s.slotsCfg := rfl
@[simp] theorem State.advance_txie (s : State) : (s.advance).txie = s.txie := rfl
@[simp] theorem State.advance_lineBaud (s : State) : (s.advance).lineBaud = s.lineBaud := rfl
@[simp] theorem State.advance_lineFmt (s : State) : (s.advance).lineFmt = s.lineFmt := rfl
@[simp] theorem State.advance_buf (s : State) : (s.advance).buf = s.buf := rfl
@[simp] theorem State.advance_popPort (s : State) : (s.advance).popPort = s.popPort := rfl
@[simp] theorem State.advance_rspPort (s : State) : (s.advance).rspPort = s.rspPort := rfl
@[simp] theorem State.advance_params (s : State) : (s.advance).params = s.params := rfl
@[simp] theorem State.advance_inputs (s : State) : (s.advance).inputs = s.inputs := rfl
@[simp] theorem State.advance_popFetch (s : State) : (s.advance).popFetch = s.popFetch := rfl
@[simp] theorem State.advance_popTrace (s : State) : (s.advance).popTrace = s.popTrace := rfl
@[simp] theorem State.advance_responses (s : State) : (s.advance).responses = s.responses := rfl

/-! `State.openFrame` (R124). -/

@[simp] theorem State.openFrame_txState (s : State) : (s.openFrame).txState = s.txState := rfl
@[simp] theorem State.openFrame_cursor (s : State) : (s.openFrame).cursor = 0 := rfl
@[simp] theorem State.openFrame_idleCount (s : State) : (s.openFrame).idleCount = s.idleCount := rfl
@[simp] theorem State.openFrame_slotsLatch (s : State) : (s.openFrame).slotsLatch = s.slotsCfg := rfl
@[simp] theorem State.openFrame_active (s : State) : (s.openFrame).active = s.active := rfl
@[simp] theorem State.openFrame_slotsCfg (s : State) : (s.openFrame).slotsCfg = s.slotsCfg := rfl
@[simp] theorem State.openFrame_txie (s : State) : (s.openFrame).txie = s.txie := rfl
@[simp] theorem State.openFrame_lineBaud (s : State) : (s.openFrame).lineBaud = s.lineBaud := rfl
@[simp] theorem State.openFrame_lineFmt (s : State) : (s.openFrame).lineFmt = s.lineFmt := rfl
@[simp] theorem State.openFrame_buf (s : State) : (s.openFrame).buf = s.buf := rfl
@[simp] theorem State.openFrame_popPort (s : State) : (s.openFrame).popPort = s.popPort := rfl
@[simp] theorem State.openFrame_rspPort (s : State) : (s.openFrame).rspPort = s.rspPort := rfl
@[simp] theorem State.openFrame_params (s : State) : (s.openFrame).params = s.params := rfl
@[simp] theorem State.openFrame_inputs (s : State) : (s.openFrame).inputs = s.inputs := rfl
@[simp] theorem State.openFrame_popFetch (s : State) : (s.openFrame).popFetch = s.popFetch := rfl
@[simp] theorem State.openFrame_popTrace (s : State) : (s.openFrame).popTrace = s.popTrace := rfl
@[simp] theorem State.openFrame_responses (s : State) : (s.openFrame).responses = s.responses := rfl

/-! `State.beginStep` (R12). -/

@[simp] theorem State.beginStep_txState (s : State) : (s.beginStep).txState = s.txState := rfl
@[simp] theorem State.beginStep_cursor (s : State) : (s.beginStep).cursor = s.cursor := rfl
@[simp] theorem State.beginStep_idleCount (s : State) : (s.beginStep).idleCount = s.idleCount := rfl
@[simp] theorem State.beginStep_slotsLatch (s : State) : (s.beginStep).slotsLatch = s.slotsLatch := rfl
@[simp] theorem State.beginStep_active (s : State) : (s.beginStep).active = s.active := rfl
@[simp] theorem State.beginStep_slotsCfg (s : State) : (s.beginStep).slotsCfg = s.slotsCfg := rfl
@[simp] theorem State.beginStep_txie (s : State) : (s.beginStep).txie = s.txie := rfl
@[simp] theorem State.beginStep_lineBaud (s : State) : (s.beginStep).lineBaud = s.lineBaud := rfl
@[simp] theorem State.beginStep_lineFmt (s : State) : (s.beginStep).lineFmt = s.lineFmt := rfl
@[simp] theorem State.beginStep_buf (s : State) : (s.beginStep).buf = s.buf := rfl
@[simp] theorem State.beginStep_popPort (s : State) : (s.beginStep).popPort = [] := rfl
@[simp] theorem State.beginStep_rspPort (s : State) : (s.beginStep).rspPort = none := rfl
@[simp] theorem State.beginStep_params (s : State) : (s.beginStep).params = s.params := rfl
@[simp] theorem State.beginStep_inputs (s : State) : (s.beginStep).inputs = s.inputs := rfl
@[simp] theorem State.beginStep_popFetch (s : State) : (s.beginStep).popFetch = s.popFetch := rfl
@[simp] theorem State.beginStep_popTrace (s : State) : (s.beginStep).popTrace = s.popTrace := rfl
@[simp] theorem State.beginStep_responses (s : State) : (s.beginStep).responses = s.responses := rfl

/-! `State.memWrite` (R15, R55): only the slot buffer. -/

@[simp] theorem State.memWrite_txState (s : State) (i : Nat) (v : Byte) : (s.memWrite i v).txState = s.txState := by
  unfold State.memWrite; split <;> rfl
@[simp] theorem State.memWrite_cursor (s : State) (i : Nat) (v : Byte) : (s.memWrite i v).cursor = s.cursor := by
  unfold State.memWrite; split <;> rfl
@[simp] theorem State.memWrite_idleCount (s : State) (i : Nat) (v : Byte) : (s.memWrite i v).idleCount = s.idleCount := by
  unfold State.memWrite; split <;> rfl
@[simp] theorem State.memWrite_slotsLatch (s : State) (i : Nat) (v : Byte) : (s.memWrite i v).slotsLatch = s.slotsLatch := by
  unfold State.memWrite; split <;> rfl
@[simp] theorem State.memWrite_active (s : State) (i : Nat) (v : Byte) : (s.memWrite i v).active = s.active := by
  unfold State.memWrite; split <;> rfl
@[simp] theorem State.memWrite_slotsCfg (s : State) (i : Nat) (v : Byte) : (s.memWrite i v).slotsCfg = s.slotsCfg := by
  unfold State.memWrite; split <;> rfl
@[simp] theorem State.memWrite_txie (s : State) (i : Nat) (v : Byte) : (s.memWrite i v).txie = s.txie := by
  unfold State.memWrite; split <;> rfl
@[simp] theorem State.memWrite_lineBaud (s : State) (i : Nat) (v : Byte) : (s.memWrite i v).lineBaud = s.lineBaud := by
  unfold State.memWrite; split <;> rfl
@[simp] theorem State.memWrite_lineFmt (s : State) (i : Nat) (v : Byte) : (s.memWrite i v).lineFmt = s.lineFmt := by
  unfold State.memWrite; split <;> rfl
@[simp] theorem State.memWrite_buf (s : State) (i : Nat) (v : Byte) : (s.memWrite i v).buf =
    if namesEntry s.params i then Memory.write s.buf i v else s.buf := by
  unfold State.memWrite; split <;> rfl
@[simp] theorem State.memWrite_popPort (s : State) (i : Nat) (v : Byte) : (s.memWrite i v).popPort = s.popPort := by
  unfold State.memWrite; split <;> rfl
@[simp] theorem State.memWrite_rspPort (s : State) (i : Nat) (v : Byte) : (s.memWrite i v).rspPort = s.rspPort := by
  unfold State.memWrite; split <;> rfl
@[simp] theorem State.memWrite_params (s : State) (i : Nat) (v : Byte) : (s.memWrite i v).params = s.params := by
  unfold State.memWrite; split <;> rfl
@[simp] theorem State.memWrite_inputs (s : State) (i : Nat) (v : Byte) : (s.memWrite i v).inputs = s.inputs := by
  unfold State.memWrite; split <;> rfl
@[simp] theorem State.memWrite_popFetch (s : State) (i : Nat) (v : Byte) : (s.memWrite i v).popFetch = s.popFetch := by
  unfold State.memWrite; split <;> rfl
@[simp] theorem State.memWrite_popTrace (s : State) (i : Nat) (v : Byte) : (s.memWrite i v).popTrace = s.popTrace := by
  unfold State.memWrite; split <;> rfl
@[simp] theorem State.memWrite_responses (s : State) (i : Nat) (v : Byte) : (s.memWrite i v).responses = s.responses := by
  unfold State.memWrite; split <;> rfl

/-! `hardwareReset` (R190): the reset table, but for what is no register. -/

@[simp] theorem hardwareReset_txState (s : State) : (hardwareReset s).txState = .idle := rfl
@[simp] theorem hardwareReset_cursor (s : State) : (hardwareReset s).cursor = 0 := rfl
@[simp] theorem hardwareReset_idleCount (s : State) : (hardwareReset s).idleCount = 0 := rfl
@[simp] theorem hardwareReset_slotsLatch (s : State) : (hardwareReset s).slotsLatch = s.params.maxSlots := rfl
@[simp] theorem hardwareReset_active (s : State) : (hardwareReset s).active = false := rfl
@[simp] theorem hardwareReset_slotsCfg (s : State) : (hardwareReset s).slotsCfg = s.params.maxSlots := rfl
@[simp] theorem hardwareReset_txie (s : State) : (hardwareReset s).txie = false := rfl
@[simp] theorem hardwareReset_lineBaud (s : State) : (hardwareReset s).lineBaud = .data := rfl
@[simp] theorem hardwareReset_lineFmt (s : State) : (hardwareReset s).lineFmt = .data := rfl
@[simp] theorem hardwareReset_buf (s : State) : (hardwareReset s).buf = [] := rfl
@[simp] theorem hardwareReset_popPort (s : State) : (hardwareReset s).popPort = [] := rfl
@[simp] theorem hardwareReset_rspPort (s : State) : (hardwareReset s).rspPort = none := rfl
@[simp] theorem hardwareReset_params (s : State) : (hardwareReset s).params = s.params := rfl
@[simp] theorem hardwareReset_inputs (s : State) : (hardwareReset s).inputs = s.inputs := rfl
@[simp] theorem hardwareReset_popFetch (s : State) : (hardwareReset s).popFetch = none := rfl
@[simp] theorem hardwareReset_popTrace (s : State) : (hardwareReset s).popTrace = s.popTrace := rfl
@[simp] theorem hardwareReset_responses (s : State) : (hardwareReset s).responses = s.responses := rfl

/-! `State.resetWith` (R47). -/

@[simp] theorem State.resetWith_txState (p : Params) : (State.resetWith p).txState = .idle := rfl
@[simp] theorem State.resetWith_cursor (p : Params) : (State.resetWith p).cursor = 0 := rfl
@[simp] theorem State.resetWith_idleCount (p : Params) : (State.resetWith p).idleCount = 0 := rfl
@[simp] theorem State.resetWith_slotsLatch (p : Params) : (State.resetWith p).slotsLatch = p.maxSlots := rfl
@[simp] theorem State.resetWith_active (p : Params) : (State.resetWith p).active = false := rfl
@[simp] theorem State.resetWith_slotsCfg (p : Params) : (State.resetWith p).slotsCfg = p.maxSlots := rfl
@[simp] theorem State.resetWith_txie (p : Params) : (State.resetWith p).txie = false := rfl
@[simp] theorem State.resetWith_lineBaud (p : Params) : (State.resetWith p).lineBaud = .data := rfl
@[simp] theorem State.resetWith_lineFmt (p : Params) : (State.resetWith p).lineFmt = .data := rfl
@[simp] theorem State.resetWith_buf (p : Params) : (State.resetWith p).buf = [] := rfl
@[simp] theorem State.resetWith_popPort (p : Params) : (State.resetWith p).popPort = [] := rfl
@[simp] theorem State.resetWith_rspPort (p : Params) : (State.resetWith p).rspPort = none := rfl
@[simp] theorem State.resetWith_params (p : Params) : (State.resetWith p).params = p := rfl
@[simp] theorem State.resetWith_inputs (p : Params) : (State.resetWith p).inputs = [] := rfl
@[simp] theorem State.resetWith_popFetch (p : Params) : (State.resetWith p).popFetch = none := rfl
@[simp] theorem State.resetWith_popTrace (p : Params) : (State.resetWith p).popTrace = [] := rfl
@[simp] theorem State.resetWith_responses (p : Params) : (State.resetWith p).responses = [] := rfl

end Sys2Proof.Machine
end

