-- ==== Sys2Proof/Laws/Memory.lean ====
section
/-! SUPPORT. The laws of the slot buffer: read after write, and the canonical form kept by every operation
(spec/20_memory.md R57, R60). -/

namespace Sys2Proof.Machine

open Sys2Proof

@[simp] theorem Memory.read_nil (i : Nat) : Memory.read [] i = unlistedByte := rfl

theorem Memory.read_cons (c : Host.Cell) (m : Memory) (i : Nat) :
    Memory.read (c :: m) i = if c.1 = i then c.2 else Memory.read m i := rfl

/-- An index that no cell has reads as unlisted. -/
theorem Memory.read_of_not_listed {m : Memory} {i : Nat} (h : ∀ c ∈ m, c.1 ≠ i) : Memory.read m i = unlistedByte := by
  induction m with
  | nil => rfl
  | cons c m ih =>
    rw [Memory.read_cons, if_neg (h c (by simp))]
    exact ih (fun d hd => h d (by simp [hd]))

theorem Memory.mem_cons {i : Nat} {v : Byte} {m : Memory} {c : Host.Cell} (h : c ∈ Memory.cons i v m) :
    (c = (i, v) ∧ v ≠ unlistedByte) ∨ c ∈ m := by
  unfold Memory.cons at h
  split at h
  · exact .inr h
  · rename_i hv
    rcases List.mem_cons.mp h with h | h
    · exact .inl ⟨h, hv⟩
    · exact .inr h

/-- Every cell after a write is the written one or was there before. -/
theorem Memory.mem_write {m : Memory} {i : Nat} {v : Byte} {c : Host.Cell} (h : c ∈ Memory.write m i v) :
    (c = (i, v) ∧ v ≠ unlistedByte) ∨ c ∈ m := by
  induction m with
  | nil => exact Memory.mem_cons h
  | cons d m ih =>
    unfold Memory.write at h
    split at h
    · exact Memory.mem_cons h
    · split at h
      · exact (Memory.mem_cons h).imp_right (List.mem_cons_of_mem _)
      · rcases List.mem_cons.mp h with h | h
        · exact .inr (by simp [h])
        · exact (ih h).imp_right (List.mem_cons_of_mem _)

theorem Memory.wf_nil : Memory.wf [] := by simp [Memory.wf]

theorem Memory.wf_tail {c : Host.Cell} {m : Memory} (h : Memory.wf (c :: m)) : Memory.wf m :=
  ⟨(List.pairwise_cons.mp h.1).2, fun d hd => h.2 d (List.mem_cons_of_mem _ hd)⟩

theorem Memory.lt_of_wf {c d : Host.Cell} {m : Memory} (h : Memory.wf (c :: m)) (hd : d ∈ m) : c.1 < d.1 :=
  (List.pairwise_cons.mp h.1).1 d hd

theorem Memory.wf_cons {i : Nat} {v : Byte} {m : Memory} (h : Memory.wf m) (hlt : ∀ c ∈ m, i < c.1) :
    Memory.wf (Memory.cons i v m) := by
  unfold Memory.cons
  split
  · exact h
  · rename_i hv
    refine ⟨List.pairwise_cons.mpr ⟨hlt, h.1⟩, ?_⟩
    intro c hc
    rcases List.mem_cons.mp hc with rfl | hc
    · exact hv
    · exact h.2 c hc

/-- A write keeps the canonical form. -/
theorem Memory.wf_write {m : Memory} (i : Nat) (v : Byte) (h : Memory.wf m) : Memory.wf (Memory.write m i v) := by
  induction m with
  | nil => exact Memory.wf_cons Memory.wf_nil (by simp)
  | cons c m ih =>
    unfold Memory.write
    split
    · rename_i hi
      refine Memory.wf_cons h ?_
      intro d hd
      rcases List.mem_cons.mp hd with rfl | hd
      · exact hi
      · exact hi.trans (Memory.lt_of_wf h hd)
    · rename_i hi
      split
      · rename_i he
        exact Memory.wf_cons (Memory.wf_tail h) (fun d hd => he ▸ Memory.lt_of_wf h hd)
      · rename_i he
        have hm := ih (Memory.wf_tail h)
        refine ⟨List.pairwise_cons.mpr ⟨?_, hm.1⟩, ?_⟩
        · intro d hd
          rcases Memory.mem_write hd with ⟨rfl, _⟩ | hd
          · exact lt_of_le_of_ne (Nat.not_lt.mp hi) he
          · exact Memory.lt_of_wf h hd
        · intro d hd
          rcases List.mem_cons.mp hd with rfl | hd
          · exact h.2 _ (by simp)
          · exact hm.2 d hd

theorem Memory.read_cons_of_ne {i j : Nat} (v : Byte) (m : Memory) (h : j ≠ i) :
    Memory.read (Memory.cons i v m) j = Memory.read m j := by
  unfold Memory.cons
  split
  · rfl
  · rw [Memory.read_cons, if_neg (Ne.symm h)]

theorem Memory.read_cons_self {i : Nat} (v : Byte) {m : Memory} (h : ∀ c ∈ m, c.1 ≠ i) :
    Memory.read (Memory.cons i v m) i = v := by
  unfold Memory.cons
  split
  · rename_i hv
    rw [Memory.read_of_not_listed h, hv]
  · rw [Memory.read_cons, if_pos rfl]

/-- R57: a write leaves every other entry alone. -/
theorem Memory.read_write_of_ne (m : Memory) {i j : Nat} (v : Byte) (h : j ≠ i) :
    Memory.read (Memory.write m i v) j = Memory.read m j := by
  induction m with
  | nil => exact Memory.read_cons_of_ne v [] h
  | cons c m ih =>
    unfold Memory.write
    split
    · exact Memory.read_cons_of_ne v _ h
    · split
      · rename_i he
        rw [Memory.read_cons_of_ne v m h, Memory.read_cons, if_neg (by omega)]
      · rw [Memory.read_cons, Memory.read_cons, ih]

/-- R60: a read after a write to the same entry gives the value written. -/
theorem Memory.read_write_self {m : Memory} (i : Nat) (v : Byte) (h : Memory.wf m) :
    Memory.read (Memory.write m i v) i = v := by
  induction m with
  | nil => exact Memory.read_cons_self v (by simp)
  | cons c m ih =>
    unfold Memory.write
    split
    · rename_i hi
      refine Memory.read_cons_self v ?_
      intro d hd
      rcases List.mem_cons.mp hd with rfl | hd
      · omega
      · have := Memory.lt_of_wf h hd; omega
    · split
      · rename_i he
        exact Memory.read_cons_self v (fun d hd => by have := Memory.lt_of_wf h hd; omega)
      · rename_i he
        rw [Memory.read_cons, if_neg he, ih (Memory.wf_tail h)]

end Sys2Proof.Machine
end

