-- ==== Sys2Proof/Laws/Ops.lean ====
section
/-! SUPPORT. For each shared operation, one lemma that says all it can do; the provers cite these. -/

namespace Sys2Proof.Machine

open Sys2Proof

theorem exceeds_iff (a b : Nat) : exceeds a b = true ↔ b < a := by simp [exceeds]

theorem dataSettled_iff (s : State) : dataSettled s = true ↔ s.params.dataSettle < s.idleCount := exceeds_iff _ _

theorem breakSettled_iff (s : State) : breakSettled s = true ↔ s.params.breakSettle < s.idleCount := exceeds_iff _ _

theorem frameSent_iff (s : State) : frameSent s = true ↔ s.slotsLatch < s.cursor := exceeds_iff _ _

theorem namesEntry_iff (p : Params) (i : Nat) : namesEntry p i = true ↔ i ≤ p.maxSlots := by simp [namesEntry]

/-- R102: the clamp lands in the legal range, whatever is asked for. -/
theorem clampSlots_range {p : Params} (h : p.minSlots ≤ p.maxSlots) (count : Nat) :
    p.minSlots ≤ clampSlots p count ∧ clampSlots p count ≤ p.maxSlots := by
  unfold clampSlots; omega

theorem memRead_of_le (s : State) {i : Nat} (h : i ≤ s.params.maxSlots) : s.memRead i = some (Memory.read s.buf i) := by
  simp [State.memRead, namesEntry, h]

theorem memRead_of_lt (s : State) {i : Nat} (h : s.params.maxSlots < i) : s.memRead i = none := by
  simp [State.memRead, namesEntry, Nat.not_le.mpr h]

theorem memWrite_of_le (s : State) {i : Nat} (v : Byte) (h : i ≤ s.params.maxSlots) :
    s.memWrite i v = { s with buf := Memory.write s.buf i v } := by
  simp [State.memWrite, namesEntry, h]

theorem memWrite_of_lt (s : State) {i : Nat} (v : Byte) (h : s.params.maxSlots < i) : s.memWrite i v = s := by
  simp [State.memWrite, namesEntry, Nat.not_le.mpr h]

/-- Every write of the slot buffer keeps its canonical form. -/
theorem memWrite_wf (s : State) (i : Nat) (v : Byte) (h : Memory.wf s.buf) : Memory.wf (s.memWrite i v).buf := by
  rw [State.memWrite_buf]
  split
  · exact Memory.wf_write i v h
  · exact h

/-- Every write of the slot buffer stays inside its capacity. -/
theorem memWrite_range (s : State) (i : Nat) (v : Byte) (h : ∀ c ∈ s.buf, c.1 ≤ s.params.maxSlots) :
    ∀ c ∈ (s.memWrite i v).buf, c.1 ≤ s.params.maxSlots := by
  rw [State.memWrite_buf]
  split
  · rename_i hi
    intro c hc
    rcases Memory.mem_write hc with ⟨rfl, _⟩ | hc
    · exact (namesEntry_iff _ _).mp hi
    · exact h c hc
  · exact h

/-- The buffer right after reset is in canonical form. -/
theorem reset_buf_wf (p : Params) : Memory.wf (State.resetWith p).buf := Memory.wf_nil

/-- R163: an event is taken exactly when `TXIE = 1`, and its arm is the one `STATE` selects (R120). -/
theorem takeEvent_cases (s : State) :
    (s.txie = true ∧ takeEvent s = some (armOf s.txState, s.beginStep)) ∨ (s.txie = false ∧ takeEvent s = none) := by
  cases h : s.txie <;> simp [takeEvent, h]

/-- Everything a step on an input can be: the decoded command, a reserved command, an event, a masked event, a reset. -/
theorem stepOn_cases (x : Input) (s : State) :
    (∃ w i, x = .cmd w ∧ decodeCommand w = .ok i ∧ stepOn x s = exec i s.beginStep) ∨
    (∃ w e, x = .cmd w ∧ decodeCommand w = .error e ∧ stepOn x s = .next s.beginStep) ∨
    (x = .txe ∧ s.txie = true ∧ stepOn x s = exec (armOf s.txState) s.beginStep) ∨
    (x = .txe ∧ s.txie = false ∧ stepOn x s = .refused .txeMasked) ∨
    (x = .rst ∧ stepOn x s = .next (hardwareReset s)) := by
  cases x with
  | cmd w =>
    cases h : decodeCommand w with
    | ok i => exact .inl ⟨w, i, rfl, h, by simp [stepOn, acceptInput, h, perform]⟩
    | error e => exact .inr (.inl ⟨w, e, rfl, h, by simp [stepOn, acceptInput, h, perform]⟩)
  | txe =>
    rcases takeEvent_cases s with ⟨h, ht⟩ | ⟨h, ht⟩
    · exact .inr (.inr (.inl ⟨rfl, h, by simp [stepOn, acceptInput, ht, perform]⟩))
    · exact .inr (.inr (.inr (.inl ⟨rfl, h, by simp [stepOn, acceptInput, ht, perform]⟩)))
  | rst => exact .inr (.inr (.inr (.inr ⟨rfl, rfl⟩)))

/-- A step is the reaction to the next input, where no peripheral word is placed to be run on its own. -/
theorem step_of_input {s : State} {x : Input} {rest : List Input} (hp : s.popFetch = none) (hi : s.inputs = x :: rest) :
    step s = stepOn x { s with inputs := rest } := by
  simp [step, stepOn, fetch, hp, hi]

/-- With no input there is no step. -/
theorem step_of_no_input {s : State} (hp : s.popFetch = none) (hi : s.inputs = []) : step s = .refused .noInput := by
  simp [step, fetch, hp, hi, perform]

/-- A placed peripheral word runs as itself, or is no operation. -/
theorem step_of_popFetch {s : State} {p : PopWord} (hp : s.popFetch = some p) :
    (∃ i, decodePop p = .ok i ∧ step s = exec i { s.beginStep with popFetch := none }) ∨
    (∃ e, decodePop p = .error e ∧ step s = .refused (.reservedPop p)) := by
  cases h : decodePop p with
  | ok i => exact .inl ⟨i, rfl, by simp [step, fetch, acceptPop, hp, h, perform]⟩
  | error e => exact .inr ⟨e, rfl, by simp [step, fetch, acceptPop, hp, h, perform]⟩

end Sys2Proof.Machine
end

