-- ==== Sys2Proof/Laws/PerInstr.lean ====
section
/-! SUPPORT. A statement made once per instruction: its word has the width spec/opcode_table.json gives its row. -/

namespace Sys2Proof.Laws

open Sys2Proof

/-- R70: the width in bits of a word of each format. -/
def codeWidth : Code → Nat
  | .command _ => 32
  | .state _ => 3
  | .pop _ => 16

/-- The "width" column of spec/opcode_table.json. -/
def tableWidth : Instr → Nat
  | .start | .stop | .setslots _ | .wrslot _ _ | .rdslot _ => 32
  | .txeBreak | .txeStart | .txeData | .txeIdle | .txeBreakSent => 3
  | .cfgline _ _ | .flush | .txieOn | .txieOff | .txwrite _ => 16

/-- The instruction's word has its row's width. -/
def EncodedWidth.Statement (i : Instr) : Prop := codeWidth (encode i) = tableWidth i

theorem EncodedWidth.start : EncodedWidth.Statement .start := rfl
theorem EncodedWidth.stop : EncodedWidth.Statement .stop := rfl
theorem EncodedWidth.setslots (count : Nat) : EncodedWidth.Statement (.setslots count) := rfl
theorem EncodedWidth.wrslot (idx : Nat) (val : Byte) : EncodedWidth.Statement (.wrslot idx val) := rfl
theorem EncodedWidth.rdslot (idx : Nat) : EncodedWidth.Statement (.rdslot idx) := rfl
theorem EncodedWidth.txeBreak : EncodedWidth.Statement .txeBreak := rfl
theorem EncodedWidth.txeStart : EncodedWidth.Statement .txeStart := rfl
theorem EncodedWidth.txeData : EncodedWidth.Statement .txeData := rfl
theorem EncodedWidth.txeIdle : EncodedWidth.Statement .txeIdle := rfl
theorem EncodedWidth.txeBreakSent : EncodedWidth.Statement .txeBreakSent := rfl
theorem EncodedWidth.cfgline (b : Baud) (f : Fmt) : EncodedWidth.Statement (.cfgline b f) := rfl
theorem EncodedWidth.flush : EncodedWidth.Statement .flush := rfl
theorem EncodedWidth.txieOn : EncodedWidth.Statement .txieOn := rfl
theorem EncodedWidth.txieOff : EncodedWidth.Statement .txieOff := rfl
theorem EncodedWidth.txwrite (v : Byte) : EncodedWidth.Statement (.txwrite v) := rfl

end Sys2Proof.Laws
end

