-- ==== Sys2Proof/Laws/Run.lean ====
section
/-! SUPPORT. How runs of several steps come apart, and what no meaning of an instruction touches. -/

namespace Sys2Proof.Machine

open Sys2Proof

/-- A run whose first step succeeds is the run from there. -/
theorem run_of_step {k : Nat} {s t : State} (h : step s = .next t) :
    Host.Core.run core (k + 1) s = Host.Core.run core k t := by
  simp only [Host.Core.run]
  rw [show core.step s = .next t from h]

/-- A run of at least one step begins with a step. -/
theorem run_succ_cases {k : Nat} {s u : State} (h : Host.Core.run core (k + 1) s = .next u) :
    ∃ t, step s = .next t ∧ Host.Core.run core k t = .next u := by
  simp only [Host.Core.run] at h
  cases hs : step s with
  | next t =>
    rw [show core.step s = .next t from hs] at h
    exact ⟨t, rfl, h⟩
  | fault r =>
    rw [show core.step s = .fault r from hs] at h
    cases h
  | refused r =>
    rw [show core.step s = .refused r from hs] at h
    cases h

/-- A run goes on from where a shorter one ends. -/
theorem run_append {j k : Nat} {s t : State} (h : Host.Core.run core j s = .next t) :
    Host.Core.run core (j + k) s = Host.Core.run core k t := by
  induction j generalizing s with
  | zero =>
    cases h
    rw [Nat.zero_add]
  | succ j ih =>
    obtain ⟨u, h1, h2⟩ := run_succ_cases h
    rw [Nat.add_right_comm, run_of_step h1]
    exact ih h2

/-- R120: an enabled event runs the arm of `STATE`. -/
theorem step_of_txe {s : State} {rest : List Input} (hp : s.popFetch = none) (hi : s.inputs = .txe :: rest)
    (ht : s.txie = true) :
    step s = exec (armOf s.txState) { s with inputs := rest, popPort := [], rspPort := none } := by
  rw [step_of_input hp hi]
  simp [stepOn, acceptInput, takeEvent, ht, perform, State.beginStep]

/-- D17, R12: no instruction touches the parameters, the inputs still to come or a word placed to be run. -/
theorem exec_keeps {i : Instr} {s t : State} (h : exec i s = .next t) :
    t.params = s.params ∧ t.inputs = s.inputs ∧ t.popFetch = s.popFetch := by
  cases i <;>
    simp only [exec, execStart, execStop, execSetslots, execWrslot, execRdslot, execTxeBreak, execTxeStart, execTxeData,
      execTxeIdle, execTxeBreakSent, execCfgline, execFlush, execTxieOn, execTxieOff, execTxwrite] at h <;>
    (repeat' split at h) <;> cases h <;> simp

end Sys2Proof.Machine
end

