-- ==== Sys2Proof/Tests/Slice0.lean ====
section
/-! SUPPORT. The model's own tests: the operand ranges, a written-out word for every operation, one step for each vector of
spec/95_test_vectors.md, and for every obligation with hypotheses a state and operands that meet them together. -/

namespace Sys2Proof.Tests

open Sys2Proof Sys2Proof.Machine

/-! Operand ranges (30_encoding.md R75, R86). -/

theorem test_wellFormed_refuses_setslots_1024 : Instr.wellFormed (.setslots 1024) = false := by decide
theorem test_wellFormed_refuses_wrslot_1024 : Instr.wellFormed (.wrslot 1024 0) = false := by decide
theorem test_wellFormed_refuses_rdslot_1024 : Instr.wellFormed (.rdslot 1024) = false := by decide
theorem test_wellFormed_admits_1023 :
    Instr.wellFormed (.setslots 1023) = true ∧ Instr.wellFormed (.wrslot 1023 0xFF) = true ∧
    Instr.wellFormed (.rdslot 1023) = true := by decide

/-! One word for every operation, written out from the encodings of 30_encoding.md. Sources: vectors T24 (commands), R78
(states), T22 (peripheral operations). -/

theorem test_decode_start : decodeCommand 0b00010000000000000000000000000000#32 = .ok .start := by decide
theorem test_decode_stop : decodeCommand 0b00100000000000000000000000000000#32 = .ok .stop := by decide
theorem test_decode_setslots : decodeCommand 0b00110000000110000000000000000000#32 = .ok (.setslots 24) := by decide
theorem test_decode_setslots_widest : decodeCommand 0b00110011111111110000000000000000#32 = .ok (.setslots 1023) := by decide
theorem test_decode_wrslot : decodeCommand 0b01000000000000010000000000001010#32 = .ok (.wrslot 1 10) := by decide
theorem test_decode_wrslot_last : decodeCommand 0b01000010000000000000000011111111#32 = .ok (.wrslot 512 255) := by decide
theorem test_decode_rdslot : decodeCommand 0b01010000000000100000000000000000#32 = .ok (.rdslot 2) := by decide
theorem test_decode_rdslot_last : decodeCommand 0b01010010000000000000000000000000#32 = .ok (.rdslot 512) := by decide
theorem test_decode_txeBreak : decodeState 0b000#3 = .ok .txeBreak := by decide
theorem test_decode_txeStart : decodeState 0b001#3 = .ok .txeStart := by decide
theorem test_decode_txeData : decodeState 0b010#3 = .ok .txeData := by decide
theorem test_decode_txeIdle : decodeState 0b011#3 = .ok .txeIdle := by decide
theorem test_decode_txeBreakSent : decodeState 0b100#3 = .ok .txeBreakSent := by decide
theorem test_decode_cfgline_baud_only : decodePop 0b0010000000000001#16 = .ok (.cfgline .brk .data) := by decide
theorem test_decode_cfgline_format_only : decodePop 0b0010000000000010#16 = .ok (.cfgline .data .brk) := by decide
theorem test_decode_flush : decodePop 0b0100000000000000#16 = .ok .flush := by decide
theorem test_decode_txieOn : decodePop 0b0110000000000000#16 = .ok .txieOn := by decide
theorem test_decode_txieOff : decodePop 0b1000000000000000#16 = .ok .txieOff := by decide
theorem test_decode_txwrite : decodePop 0b1010000000011110#16 = .ok (.txwrite 30) := by decide

/-- Vector T10: every word of its table is reserved, so no operation's. -/
theorem test_decode_reserved_commands :
    [0x00000000, 0x60000000, 0xF0000000, 0xFFFFFFFF, 0x10000001, 0x10010000, 0x20000100, 0x30030001, 0x44010000,
      0x4001010A, 0x50020001, 0x58020000].map (fun w => decodeTableWord 32 w) = List.replicate 12 none := by decide

/-- R84: the state codes 5, 6 and 7. -/
theorem test_decode_reserved_states :
    decodeState 5 = .error (.reservedState 5) ∧ decodeState 6 = .error (.reservedState 6) ∧
    decodeState 7 = .error (.reservedState 7) := by decide

/-- R85: the code of no operation (PCODE 0, 6, 7), a bit of 12:8 set, an unused bit of PARG set. -/
theorem test_decode_reserved_pops :
    [0x0000, 0xC000, 0xE000, 0x3000, 0x2004, 0x4001, 0x6001, 0x8001, 0xA100].map (fun p => decodeTableWord 16 p) =
      List.replicate 9 none := by decide

/-- Vector T22: the words of the peripheral operations. -/
theorem test_pop_words :
    Pop.word (.cfgline .data .data) = 0x2000 ∧ Pop.word (.cfgline .brk .brk) = 0x2003 ∧ Pop.word .flush = 0x4000 ∧
    Pop.word .txieOn = 0x6000 ∧ Pop.word .txieOff = 0x8000 ∧ Pop.word (.txwrite 0x1E) = 0xA01E := by decide

/-- Vectors T5, T7, T9: the words of the commands. -/
theorem test_command_words :
    encode (.setslots 511) = .command 0x31FF0000#32 ∧ encode (.wrslot 0 0x17) = .command 0x40000017#32 ∧
    encode (.wrslot 511 1) = .command 0x41FF0001#32 ∧ encode (.rdslot 513) = .command 0x52010000#32 := by decide

theorem test_decodeTableWord_command : decodeTableWord 32 0x50020000 = some (.rdslot 2) := by decide
theorem test_decodeTableWord_pop : decodeTableWord 16 0xA00A = some (.txwrite 0x0A) := by decide
theorem test_decodeTableWord_state : decodeTableWord 8 4 = some .txeBreakSent ∧ decodeTableWord 8 5 = none := by decide

/-! Steps. -/

/-- The parameters of the programs P1, P3 and P4: `MIN_SLOTS = 1`, all else as in the vectors. -/
def params : Params := { Params.reference with minSlots := 1 }

/-- The buffer of the source's example: `[0, 10, 20, 30]` (vector V1). -/
def buffer : Memory := [(1, 0x0A), (2, 0x14), (3, 0x1E)]

/-- A running block with three slots, in the given state, with that state's line configuration (R46). -/
def running (x : TxState) (cursor count : Nat) : State :=
  { State.resetWith params with
    txState := x, cursor := cursor, idleCount := count, slotsLatch := 3, slotsCfg := 3, active := true, txie := true,
    lineBaud := (lineFor x).1, lineFmt := (lineFor x).2, buf := buffer }

/-- The state tuple of 95_test_vectors.md section 0, with the words of the operations emitted. -/
structure Seen where
  txState : TxState
  cursor : Nat
  idleCount : Nat
  slotsLatch : Nat
  slotsCfg : Nat
  active : Bool
  txie : Bool
  lineBaud : Baud
  lineFmt : Fmt
  emitted : List PopWord
deriving DecidableEq, Repr

/-- What is seen of the next state. -/
def seen (o : Host.Outcome State Fault Refusal) : Option Seen :=
  match o with
  | .next t => some ⟨t.txState, t.cursor, t.idleCount, t.slotsLatch, t.slotsCfg, t.active, t.txie, t.lineBaud, t.lineFmt,
      t.popPort.map Pop.word⟩
  | .fault _ => none
  | .refused _ => none

/-- The next state's buffer and response. -/
def stored (o : Host.Outcome State Fault Refusal) : Option (Memory × Option Byte) :=
  match o with
  | .next t => some (t.buf, t.rspPort)
  | .fault _ => none
  | .refused _ => none

/-- The next state, if there is one. -/
def nextOf (o : Host.Outcome State Fault Refusal) : Option State :=
  match o with
  | .next t => some t
  | .fault _ => none
  | .refused _ => none

theorem next_of_nextOf {o : Host.Outcome State Fault Refusal} {t : State} (h : nextOf o = some t) : o = .next t := by
  cases o with
  | next u => exact congrArg _ (Option.some.inj h)
  | fault r => cases h
  | refused r => cases h

/-- Why there is no next state. -/
def stopOf (o : Host.Outcome State Fault Refusal) : Option (Fault ⊕ Refusal) :=
  match o with
  | .next _ => none
  | .fault r => some (.inl r)
  | .refused r => some (.inr r)

/-- Vector T1. -/
theorem test_start_from_reset : seen (stepOn (.cmd 0x10000000) (State.resetWith params)) =
    some ⟨.idle, 0, 0, 512, 512, true, true, .data, .data, [0x4000, 0x2000, 0x6000]⟩ := by decide

/-- Vector T2. -/
theorem test_start_when_active : seen (stepOn (.cmd 0x10000000) (running .breakSent 0 13)) =
    some ⟨.breakSent, 0, 13, 3, 3, true, true, .brk, .brk, []⟩ := by decide

/-- Vector T3. -/
theorem test_stop_in_the_break : seen (stepOn (.cmd 0x20000000) (running .breakSent 0 13)) =
    some ⟨.breakSent, 0, 13, 3, 3, false, false, .brk, .brk, [0x8000]⟩ := by decide

/-- Vector T4. -/
theorem test_stop_when_never_started : seen (stepOn (.cmd 0x20000000) (State.resetWith params)) =
    some ⟨.idle, 0, 0, 512, 512, false, false, .data, .data, [0x8000]⟩ := by decide

/-- Vector T5: the clamp from below, `MIN_SLOTS = 24`. -/
theorem test_setslots_clamps_up : seen (stepOn (.cmd 0x30170000) State.reset) =
    some ⟨.idle, 0, 0, 512, 24, false, false, .data, .data, []⟩ := by decide

/-- Vector T5: the clamp from above. -/
theorem test_setslots_clamps_down : seen (stepOn (.cmd 0x33FF0000) (running .data 2 71)) =
    some ⟨.data, 2, 71, 3, 512, true, true, .data, .data, []⟩ := by decide

/-- Vector T7: the last entry. -/
theorem test_wrslot_last_entry : stored (stepOn (.cmd 0x420000FF) (running .data 2 71)) =
    some ([(1, 0x0A), (2, 0x14), (3, 0x1E), (512, 0xFF)], none) := by decide

/-- Vector T8: out of range, no entry changes. -/
theorem test_wrslot_out_of_range : stored (stepOn (.cmd 0x42010001) (running .data 2 71)) = some (buffer, none) := by
  decide

/-- Vector T9. -/
theorem test_rdslot : stored (stepOn (.cmd 0x50020000) (running .data 2 71)) = some (buffer, some 0x14) := by decide

/-- Vector T9: out of range. -/
theorem test_rdslot_out_of_range : stored (stepOn (.cmd 0x52010000) (running .data 2 71)) = some (buffer, some 0x00) := by
  decide

/-- Vector T13: 25 does not exceed 25. -/
theorem test_idle_at_the_threshold : seen (stepOn .txe (running .idle 4 24)) =
    some ⟨.idle, 4, 25, 3, 3, true, true, .data, .data, []⟩ := by decide

/-- Vector T13: 26 exceeds 25, and the counter is not reset. -/
theorem test_idle_leaves : seen (stepOn .txe (running .idle 4 25)) =
    some ⟨.brk, 4, 26, 3, 3, true, true, .data, .data, []⟩ := by decide

/-- Vector T14: the break byte is 0x00 whatever the start code is. -/
theorem test_break : seen (stepOn .txe { running .brk 4 26 with buf := [(0, 0x17)] }) =
    some ⟨.breakSent, 4, 0, 3, 3, true, true, .brk, .brk, [0x2003, 0xA000]⟩ := by decide

/-- Vector T15: 70 does not exceed 70. -/
theorem test_breakSent_at_the_threshold : seen (stepOn .txe (running .breakSent 0 69)) =
    some ⟨.breakSent, 0, 70, 3, 3, true, true, .brk, .brk, []⟩ := by decide

/-- Vector T15: 71 exceeds 70. -/
theorem test_breakSent_leaves : seen (stepOn .txe (running .breakSent 0 70)) =
    some ⟨.start, 0, 71, 3, 3, true, true, .brk, .brk, []⟩ := by decide

/-- Vector T16(b): the latch and a start code that is not zero. -/
theorem test_start_arm : seen (stepOn .txe { running .start 4 71 with slotsCfg := 100, buf := [(0, 0x17)] }) =
    some ⟨.data, 1, 71, 100, 100, true, true, .data, .data, [0x2000, 0xA017]⟩ := by decide

/-- Vector T17: 3 does not exceed 3. -/
theorem test_data_middle : seen (stepOn .txe (running .data 2 71)) =
    some ⟨.data, 3, 71, 3, 3, true, true, .data, .data, [0xA014]⟩ := by decide

/-- Vectors T17 and T18: 4 exceeds 3, and `SLOTS_CFG` plays no part. -/
theorem test_data_last : seen (stepOn .txe { running .data 3 71 with slotsCfg := 512 }) =
    some ⟨.idle, 4, 0, 3, 512, true, true, .data, .data, [0xA01E]⟩ := by decide

/-- Vector T19. -/
theorem test_txe_while_disabled : stopOf (stepOn .txe State.reset) = some (.inr .txeMasked) := by decide

/-- Vector T26: no TXIE_OFF is emitted. -/
theorem test_reset_in_mid_frame : seen (stepOn .rst (running .data 2 71)) =
    some ⟨.idle, 0, 0, 512, 512, false, false, .data, .data, []⟩ ∧
    stored (stepOn .rst (running .data 2 71)) = some ([], none) := by decide

/-- R141: a peripheral word run on its own. -/
theorem test_cfgline : seen (step (State.reset.withFetchWord 16 0x2001)) =
    some ⟨.idle, 0, 0, 512, 512, false, false, .brk, .data, [0x2001]⟩ := by decide

/-- R142. -/
theorem test_flush : seen (step (State.reset.withFetchWord 16 0x4000)) =
    some ⟨.idle, 0, 0, 512, 512, false, false, .data, .data, [0x4000]⟩ := by decide

/-- R144. -/
theorem test_txieOn : seen (step (State.reset.withFetchWord 16 0x6000)) =
    some ⟨.idle, 0, 0, 512, 512, false, true, .data, .data, [0x6000]⟩ := by decide

/-- R145: it does not write `ACTIVE`. -/
theorem test_txieOff : seen (exec .txieOff (running .idle 4 0)) =
    some ⟨.idle, 4, 0, 3, 3, true, false, .data, .data, [0x8000]⟩ := by decide

/-- R146. -/
theorem test_txwrite : seen (step (State.reset.withFetchWord 16 0xA0FF)) =
    some ⟨.idle, 0, 0, 512, 512, false, false, .data, .data, [0xA0FF]⟩ := by decide

/-- Vector T23, at the reference clock. -/
theorem test_divisor : (running .idle 4 0).lineDiv = 320 ∧ (running .start 4 71).lineDiv = 888 := by decide

/-- Vector T25. -/
theorem test_oState : State.reset.oState = 3 ∧ (running .brk 4 26).oState = 0 ∧ (running .breakSent 4 0).oState = 4 ∧
    (running .start 4 71).oState = 1 ∧ (running .data 1 71).oState = 2 := by decide

/-! Witnesses: for every obligation with hypotheses, states and operands that meet them together. -/

/-- A running block with the given inputs to come. -/
def given (x : TxState) (cursor count : Nat) (inputs : List Input) : State :=
  { running x cursor count with inputs := inputs }

theorem params_valid : params.Valid := by constructor <;> decide

theorem reference_valid : Params.reference.Valid := by constructor <;> decide

theorem inv_running_idle : Inv (running .idle 4 0) := by constructor <;> first | exact params_valid | decide
theorem inv_given_idle (xs : List Input) : Inv (given .idle 4 0 xs) := by
  obtain ⟨a, b, c, d, e, f, g, h, i, j, k, l, m, n⟩ := inv_running_idle
  exact ⟨a, b, c, d, e, f, g, h, i, j, k, l, m, n⟩
theorem inv_running_data : Inv (running .data 1 71) := by constructor <;> first | exact params_valid | decide
theorem inv_given_data (xs : List Input) : Inv (given .data 1 71 xs) := by
  obtain ⟨a, b, c, d, e, f, g, h, i, j, k, l, m, n⟩ := inv_running_data
  exact ⟨a, b, c, d, e, f, g, h, i, j, k, l, m, n⟩
theorem inv_running_brk : Inv (running .brk 4 26) := by constructor <;> first | exact params_valid | decide
theorem inv_running_start : Inv (running .start 4 71) := by constructor <;> first | exact params_valid | decide

theorem witness_StepRunsTheDecodedOperation :
    ((given .idle 4 0 [.cmd 0x43FF00FF]).popFetch = none ∧
      decodeCommand 0x43FF00FF = .ok (.wrslot 1023 0xFF)) ∧
    ((given .data 3 71 [.txe]).popFetch = none ∧ (given .data 3 71 [.txe]).txie = true ∧
      decodeState (given .data 3 71 [.txe]).txState.code = .ok .txeData) ∧
    ({ State.reset with popFetch := some 0x2002 }.popFetch = some 0x2002 ∧
      decodePop 0x2002 = .ok (.cfgline .data .brk)) := by decide

theorem witness_EventRunsTheArmOfState : ∀ x ∈ [TxState.idle, .brk, .breakSent, .start, .data],
    (given x 3 0 [.txe]).popFetch = none ∧ (given x 3 0 [.txe]).inputs = .txe :: [] ∧ (given x 3 0 [.txe]).txie = true ∧
    (given x 3 0 [.txe]).txState = x := by decide

theorem witness_EventsAreMaskedWhileDisabled :
    (State.reset.popFetch = none ∧ State.reset.txie = false) ∧
    (∃ t, step { State.reset with inputs := [.cmd 0x10000000] } = .next t ∧ t.txie ≠ State.reset.txie) ∧
    (∃ t, step (given .data 2 71 [.cmd 0x20000000]) = .next t ∧ t.txie ≠ true) ∧
    (∃ t, step (given .data 2 71 [.rst]) = .next t ∧ t.txie ≠ true) :=
  ⟨by decide, ⟨_, rfl, by decide⟩, ⟨_, rfl, by decide⟩, ⟨_, rfl, by decide⟩⟩

theorem witness_ReservedCommandIsIgnored :
    (given .data 2 71 [.cmd 0x44010000]).popFetch = none ∧
    (given .data 2 71 [.cmd 0x44010000]).inputs = .cmd 0x44010000 :: [] ∧
    decodeCommand 0x44010000 = .error (.reservedCommand 0x44010000) := by decide

theorem witness_HardwareReset :
    (given .data 2 71 [.rst]).popFetch = none ∧ (given .data 2 71 [.rst]).inputs = .rst :: [] := by decide

theorem witness_StartCommand : State.reset.active = false ∧ (running .data 2 71).active = true := by decide

theorem witness_SetslotsCommand : 1023 < 1024 ∧
    seen (exec (.setslots 1023) State.reset) =
      some ⟨.idle, 0, 0, 512, 512, false, false, .data, .data, []⟩ := by decide

theorem witness_WrslotCommand :
    1023 < 1024 ∧ Memory.wf (running .data 2 71).buf ∧ 512 ≤ (running .data 2 71).params.maxSlots ∧
    (running .data 2 71).params.maxSlots < 513 := by decide

theorem witness_RdslotCommand :
    1023 < 1024 ∧ 512 ≤ (running .data 2 71).params.maxSlots ∧ (running .data 2 71).params.maxSlots < 513 := by decide

theorem witness_StartIsIdempotent :
    (given .data 2 71 [.cmd 0x10000000]).active = true ∧ (given .data 2 71 [.cmd 0x10000000]).popFetch = none ∧
    (given .data 2 71 [.cmd 0x10000000]).inputs = .cmd 0x10000000#32 :: [] := by decide

theorem witness_StopThenStartReinitialises :
    (given .start 4 71 [.cmd 0x20000000, .cmd 0x10000000]).popFetch = none ∧
    (given .start 4 71 [.cmd 0x20000000, .cmd 0x10000000]).inputs = .cmd 0x20000000#32 :: .cmd 0x10000000#32 :: [] := by
  decide

theorem witness_DataArm : (running .data 512 71).cursor ≤ (running .data 512 71).params.maxSlots := by decide

theorem witness_DataArmOutsideTheBuffer :
    (running .data 513 71).params.maxSlots < (running .data 513 71).cursor := by decide

theorem witness_EmissionListIsComplete :
    (∃ t, exec .txeStart (running .start 4 71) = .next t) ∧
    (∃ t, step (given .data 2 71 [.cmd 0]) = .next t ∧ decodeCommand 0 = .error (.reservedCommand 0)) :=
  ⟨⟨_, rfl⟩, ⟨_, rfl, by decide⟩⟩

theorem witness_OnlyTwoLineConfigurationsAreEmitted :
    (given .brk 4 26 [.txe]).popFetch = none ∧
    ∃ t, step (given .brk 4 26 [.txe]) = .next t ∧ Pop.cfgline .brk .brk ∈ t.popPort :=
  ⟨rfl, _, rfl, by decide⟩

theorem witness_OnlyTheBreakByteAtBreakRate :
    (∃ t, Inv (given .brk 4 26 [.txe]) ∧ step (given .brk 4 26 [.txe]) = .next t ∧
      Pop.txwrite 0x00 ∈ t.popPort ∧ t.lineBaud = .brk) ∧
    (∃ t, Inv (given .start 4 71 [.txe]) ∧ step (given .start 4 71 [.txe]) = .next t ∧
      Pop.txwrite 0x00 ∈ t.popPort ∧ t.lineBaud = .data) ∧
    (∃ t, Inv (given .data 3 71 [.txe]) ∧ step (given .data 3 71 [.txe]) = .next t ∧
      Pop.txwrite 0x1E ∈ t.popPort ∧ t.lineBaud = .data) :=
  ⟨⟨_, by constructor <;> first | exact params_valid | decide, rfl, by decide⟩, ⟨_, by constructor <;> first | exact params_valid | decide, rfl, by decide⟩,
    ⟨_, by constructor <;> first | exact params_valid | decide, rfl, by decide⟩⟩

theorem witness_DivisorOutput :
    params.Valid ∧ (running .idle 4 0).lineBaud = .data ∧ (running .start 4 71).lineBaud = .brk ∧
    (running .idle 4 0).params.uartClk = 80000000 ∧ (running .idle 4 0).params.dataBaud = 250000 ∧
    (running .idle 4 0).params.breakBaud = 90000 := ⟨params_valid, by decide⟩

theorem witness_PositionMoves :
    (∃ t, (running .idle 4 25).txState = .idle ∧ exec .txeIdle (running .idle 4 25) = .next t) ∧
    (∃ t, exec .txeBreak (running .brk 4 26) = .next t) ∧
    (∃ t, (running .breakSent 4 70).txState = .breakSent ∧ exec .txeBreakSent (running .breakSent 4 70) = .next t) ∧
    (∃ t, exec .txeStart (running .start 4 71) = .next t) ∧
    (∃ t, (running .data 3 71).txState = .data ∧ exec .txeData (running .data 3 71) = .next t) ∧
    (∃ t, State.reset.active = false ∧ exec .start State.reset = .next t) ∧
    (∃ t, (running .data 3 71).active = true ∧ exec .start (running .data 3 71) = .next t) ∧
    (∃ t, exec .stop (running .data 3 71) = .next t) ∧ (∃ t, exec (.setslots 1023) (running .data 3 71) = .next t) ∧
    (∃ t, exec (.wrslot 512 1) (running .data 3 71) = .next t) ∧ (∃ t, exec (.rdslot 512) (running .data 3 71) = .next t) ∧
    (∃ t, step (given .data 3 71 [.cmd 0]) = .next t) :=
  ⟨⟨_, rfl, rfl⟩, ⟨_, rfl⟩, ⟨_, rfl, rfl⟩, ⟨_, rfl⟩, ⟨_, rfl, rfl⟩, ⟨_, rfl, rfl⟩, ⟨_, rfl, rfl⟩, ⟨_, rfl⟩, ⟨_, rfl⟩, ⟨_, rfl⟩,
    ⟨_, rfl⟩, ⟨_, rfl⟩⟩

theorem witness_AccessToWorkingRegisters :
    (∃ t, exec .txeData (running .data 3 71) = .next t ∧ t.txState ≠ .data ∧ t.cursor ≠ 3 ∧ t.idleCount ≠ 71) ∧
    (∃ t, exec .txeStart { running .start 4 71 with slotsCfg := 100 } = .next t ∧ t.slotsLatch ≠ 3) ∧
    (∃ t, Instr.rdslot 512 ≠ .txeData ∧ Instr.rdslot 512 ≠ .txeIdle ∧ Instr.rdslot 512 ≠ .txeBreakSent ∧
      exec (.rdslot 512) (running .data 3 71) = .next t) :=
  ⟨⟨_, rfl, by decide⟩, ⟨_, rfl, by decide⟩, ⟨_, by decide, by decide, by decide, rfl⟩⟩

theorem witness_ContextsWriteTheirOwnState :
    (∃ t, exec (armOf .brk) (running .brk 4 26) = .next t ∧ t.lineBaud ≠ .data) ∧
    (∃ t, decodeCommand 0x10000000 = .ok .start ∧
      exec .start { running .breakSent 4 13 with active := false, txie := false } = .next t ∧
      t.txState ≠ .breakSent ∧ t.active ≠ false) ∧
    (∃ t, decodeCommand 0x30640000 = .ok (.setslots 100) ∧
      exec (.setslots 100) (running .data 3 71) = .next t ∧ t.slotsCfg ≠ 3) ∧
    (∃ t, decodeCommand 0x420000FF = .ok (.wrslot 512 0xFF) ∧
      exec (.wrslot 512 0xFF) (running .data 3 71) = .next t ∧ t.buf ≠ buffer) ∧
    (∃ t, decodeCommand 0x50020000 = .ok (.rdslot 2) ∧
      exec (.rdslot 2) (running .data 3 71) = .next t ∧ t.responses ≠ []) :=
  ⟨⟨_, rfl, by decide⟩, ⟨_, by decide, rfl, by decide⟩, ⟨_, by decide, rfl, by decide⟩, ⟨_, by decide, rfl, by decide⟩,
    ⟨_, by decide, rfl, by decide⟩⟩

theorem witness_DecodeOfEncode : Instr.WellFormed (.wrslot 1023 0xFF) := by decide

theorem witness_EncodeOfDecode : decode (.command 0x43FF00FF) = .ok (.wrslot 1023 0xFF) := by decide

theorem witness_TableRowsAreDisjoint :
    (∃ a, commandRows[4]? = some a ∧ rowFits 0x50020000#32 a = true) ∧
    (∃ a, stateRows[4]? = some a ∧ rowFits 4#3 a = true) ∧ (∃ a, popRows[4]? = some a ∧ rowFits 0xA0FF#16 a = true) :=
  ⟨⟨_, rfl, by decide⟩, ⟨_, rfl, by decide⟩, ⟨_, rfl, by decide⟩⟩

theorem witness_StateCodesSelectTheArms : 5 ≤ (5#3 : StateCode).toNat ∧ 5 ≤ (7#3 : StateCode).toNat := by decide

theorem witness_InvariantsHoldAtReset : Params.reference.Valid ∧ params.Valid :=
  ⟨reference_valid, params_valid⟩

theorem witness_InvariantsAreKeptByEveryStep : ∃ t, Inv (given .data 1 71 [.txe]) ∧ step (given .data 1 71 [.txe]) = .next t :=
  ⟨_, inv_given_data _, rfl⟩

theorem witness_BufferFormIsKeptByEveryStep :
    ∃ t, Memory.wf (given .data 1 71 [.cmd 0x40020000]).buf ∧ step (given .data 1 71 [.cmd 0x40020000]) = .next t :=
  ⟨_, by decide, rfl⟩

theorem witness_EnabledInputsHaveTheirStep :
    (Inv (given .data 1 71 [.txe]) ∧ (given .data 1 71 [.txe]).inputs = .txe :: [] ∧
      inputEnabled .txe (given .data 1 71 [.txe]) = true) ∧
    (Inv { State.reset with inputs := [.txe] } ∧ inputEnabled .txe { State.reset with inputs := [.txe] } = false) :=
  ⟨⟨inv_given_data _, by decide⟩, by constructor <;> first | exact reference_valid | decide, by decide⟩

theorem witness_RegistersFitTheirWidths :
    Inv { running .idle 513 0 with slotsLatch := 512, slotsCfg := 512, buf := [(512, 0xFF)] } ∧ Inv (running .start 4 71) :=
  ⟨by constructor <;> first | exact params_valid | decide, inv_running_start⟩

theorem witness_BufferKeepsTheLastWrite :
    ∃ t, Inv (given .data 1 71 [.cmd 0x420000FF, .txe]) ∧
      Host.Core.run core 2 (given .data 1 71 [.cmd 0x420000FF, .txe]) = .next t ∧
      ∀ x ∈ (given .data 1 71 [.cmd 0x420000FF, .txe]).inputs.take 2,
        x ≠ .rst ∧ ∀ (w : CommandWord) (v : Byte), x = .cmd w → decodeCommand w ≠ .ok (.wrslot 511 v) := by
  refine ⟨_, inv_given_data _, rfl, ?_⟩
  intro x hx
  have h : decodeCommand 0x420000FF = .ok (.wrslot 512 0xFF) := by decide
  rcases List.mem_cons.mp hx with rfl | hx
  · exact ⟨by decide, by rintro w v ⟨rfl⟩; rw [h]; intro e; cases e⟩
  · rcases List.mem_cons.mp hx with rfl | hx
    · exact ⟨by decide, by rintro w v ⟨⟩⟩
    · cases hx

theorem witness_WriteDuringDataPhase :
    Inv (given .data 1 71 (scriptWrslot 512 0xFF :: (scriptTxe 3 ++ []))) ∧
    (given .data 1 71 (scriptWrslot 512 0xFF :: (scriptTxe 3 ++ []))).txState = .data ∧
    (given .data 1 71 (scriptWrslot 512 0xFF :: (scriptTxe 3 ++ []))).txie = true ∧
    512 ≤ (given .data 1 71 (scriptWrslot 512 0xFF :: (scriptTxe 3 ++ []))).params.maxSlots ∧
    3 ≤ (given .data 1 71 (scriptWrslot 512 0xFF :: (scriptTxe 3 ++ []))).slotsLatch + 1 -
      (given .data 1 71 (scriptWrslot 512 0xFF :: (scriptTxe 3 ++ []))).cursor ∧
    (given .data 1 71 (scriptWrslot 512 0xFF :: (scriptTxe 3 ++ []))).inputs =
      scriptWrslot 512 0xFF :: (scriptTxe 3 ++ []) :=
  ⟨inv_given_data _, by decide, by decide, by decide, by decide, rfl⟩

theorem witness_UnsentEntriesAreNotObserved :
    Inv (given .data 3 71 [.txe]) ∧ (given .data 3 71 [.txe]).inputs = .txe :: [] ∧
    (∀ j, j ≤ (given .data 3 71 [.txe]).slotsLatch →
      Memory.read (buffer ++ [(4, 0x55)]) j = Memory.read (given .data 3 71 [.txe]).buf j) ∧
    ∃ t, step (given .data 3 71 [.txe]) = .next t :=
  ⟨by constructor <;> first | exact params_valid | decide, rfl, by decide, _, rfl⟩

theorem witness_SlotCountHasNoMidFrameEffect : ∃ t, exec .txeData (running .data 2 71) = .next t := ⟨_, rfl⟩

theorem witness_StatesFollowTheCycle :
    (∃ t, step (given .data 3 71 [.txe]) = .next t ∧ t.txState = cycleNext .data) ∧
    (∃ t, step (given .brk 4 26 [.txe]) = .next t ∧ t.txState = .breakSent) ∧
    (∃ t, step (given .data 3 71 [.cmd 0x33FF0000]) = .next t ∧
      decodeCommand 0x33FF0000 ≠ .ok .start ∧ decodeCommand 0x33FF0000 ≠ .ok .stop ∧ t.txState = .data) :=
  ⟨⟨_, rfl, by decide⟩, ⟨_, rfl, by decide⟩, ⟨_, rfl, by decide⟩⟩

theorem witness_FrameOfEvents :
    Inv (given .idle 4 0 (scriptFrame params 3 ++ [])) ∧
    (given .idle 4 0 (scriptFrame params 3 ++ [])).txState = .idle ∧
    (given .idle 4 0 (scriptFrame params 3 ++ [])).idleCount = 0 ∧
    (given .idle 4 0 (scriptFrame params 3 ++ [])).txie = true ∧
    (given .idle 4 0 (scriptFrame params 3 ++ [])).inputs =
      scriptFrame (given .idle 4 0 (scriptFrame params 3 ++ [])).params
        (given .idle 4 0 (scriptFrame params 3 ++ [])).slotsCfg ++ [] :=
  ⟨inv_given_idle _, rfl, rfl, rfl, rfl⟩

theorem inv_reset_with_inputs (xs : List Input) : Inv { State.reset with inputs := xs } := by
  have h : Inv State.reset := by constructor <;> first | exact reference_valid | decide
  obtain ⟨a, b, c, d, e, f, g, h, i, j, k, l, m, n⟩ := h
  exact ⟨a, b, c, d, e, f, g, h, i, j, k, l, m, n⟩

theorem witness_FirstFrameAfterStart :
    let s := { State.reset with inputs := scriptStart :: (scriptTxe (25 + 70 + 4) ++ []) }
    Inv s ∧ s.active = false ∧
    s.inputs = scriptStart :: (scriptTxe (s.params.dataSettle + s.params.breakSettle + 4) ++ []) :=
  ⟨inv_reset_with_inputs _, rfl, rfl⟩

/-- Vector T20, the row `(0, 1, 1)`: the shortest cycle the constraints allow. -/
def shortest : Params := { Params.reference with minSlots := 1, maxSlots := 1, dataSettle := 0, breakSettle := 1 }

/-- The block at the shortest cycle, started. -/
def endlessStart : State := { State.resetWith shortest with active := true, txie := true }

/-- An endless run of it on `txe` inputs. -/
def endless : Nat → State
  | 0 => endlessStart
  | n + 1 => (nextOf (stepOn .txe (endless n))).getD (endless n)

/-- What keeps `endless` going. -/
def Going (s : State) : Prop :=
  s.params = shortest ∧ s.txie = true ∧ s.slotsCfg = 1 ∧ s.slotsLatch ≤ 1 ∧ (s.txState = .data → s.cursor ≤ 1)

theorem going_step {s : State} (h : Going s) : ∃ t, stepOn .txe s = .next t ∧ Going t := by
  obtain ⟨hp, ht, hc, hl, hd⟩ := h
  have hm : s.params.maxSlots = 1 := by rw [hp]; rfl
  rcases stepOn_cases .txe s with ⟨_, _, hx, _⟩ | ⟨_, _, hx, _⟩ | ⟨_, _, he⟩ | ⟨_, hf, _⟩ | ⟨hx, _⟩
  · cases hx
  · cases hx
  · rw [he]
    cases hst : s.txState
    · exact ⟨_, rfl, hp, ht, hc, hl, nofun⟩
    · exact ⟨_, rfl, hp, ht, hc, hc.le, fun _ => le_refl 1⟩
    · have hb : s.beginStep.memRead s.cursor = some (Memory.read s.buf s.cursor) :=
        memRead_of_le s.beginStep (by rw [State.beginStep_params, hm]; exact hd hst)
      simp only [armOf, exec, execTxeData, State.beginStep_cursor, hb]
      refine ⟨_, rfl, ?_⟩
      split
      · exact ⟨hp, ht, hc, hl, nofun⟩
      · rename_i hn
        rw [frameSent_iff] at hn
        exact ⟨hp, ht, hc, hl, fun _ => le_trans (Nat.not_lt.mp hn) hl⟩
    · simp only [armOf, exec, execTxeIdle]
      refine ⟨_, rfl, ?_⟩
      split
      · exact ⟨hp, ht, hc, hl, nofun⟩
      · exact ⟨hp, ht, hc, hl, fun h => absurd (hst.symm.trans h) (by decide)⟩
    · simp only [armOf, exec, execTxeBreakSent]
      refine ⟨_, rfl, ?_⟩
      split
      · exact ⟨hp, ht, hc, hl, nofun⟩
      · exact ⟨hp, ht, hc, hl, fun h => absurd (hst.symm.trans h) (by decide)⟩
  · rw [ht] at hf
    cases hf
  · cases hx

theorem endless_going (n : Nat) : Going (endless n) := by
  induction n with
  | zero => exact ⟨rfl, rfl, rfl, le_refl 1, nofun⟩
  | succ n ih =>
    obtain ⟨t, ht, hg⟩ := going_step ih
    have : endless (n + 1) = t := by rw [endless, ht]; rfl
    rw [this]
    exact hg

theorem endless_inv : Inv (endless 0) := by
  have h : shortest.Valid := by constructor <;> decide
  constructor <;> first | exact h | decide

theorem witness_FramesNeverCease :
    RunsOn (fun _ => .txe) endless ∧ WeaklyFair (fun _ => .txe) endless ∧ Inv (endless 0) ∧ (endless 0).txie = true ∧
    ∀ n : Nat, (fun _ => Input.txe) n ≠ .rst ∧ ∀ w, (fun _ => Input.txe) n = .cmd w → decodeCommand w ≠ .ok .stop := by
  refine ⟨fun n => ?_, fun n => ⟨n, le_refl n, .inl rfl⟩, endless_inv, rfl, fun n => ⟨nofun, nofun⟩⟩
  obtain ⟨t, ht, _⟩ := going_step (endless_going n)
  have h : endless (n + 1) = t := by rw [endless, ht]; rfl
  rw [h]
  exact ht

/-- START from reset presents its three operations in three cycles; an RDSLOT and a reset emit none. -/
theorem witness_StepIsPresentedInOrder :
    (portInput State.reset ⟨false, true, 0x10000000, false⟩ = some (.cmd 0x10000000) ∧
      (∃ t, stepOn (.cmd 0x10000000) State.reset = .next t ∧ t.popPort.length = 2 + 1) ∧
      ∀ q ∈ [(⟨false, true, 0x20000000, true⟩ : PortIn), ⟨false, false, 0, true⟩], q.rst = false) ∧
    (portInput (running .data 2 71) ⟨false, true, 0x50020000, false⟩ = some (.cmd 0x50020000) ∧
      ∃ t, stepOn (.cmd 0x50020000) (running .data 2 71) = .next t ∧ t.popPort = []) ∧
    (portInput (running .data 2 71) ⟨true, true, 0x50020000, true⟩ = some .rst ∧
      ∃ t, stepOn .rst (running .data 2 71) = .next t ∧ t.popPort = []) :=
  ⟨⟨by decide, ⟨_, rfl, by decide⟩, by decide⟩, ⟨by decide, _, rfl, by decide⟩, ⟨by decide, _, rfl, by decide⟩⟩

/-- A reset cycle with a response pending (log entry 7). -/
theorem test_rsp_data_under_reset :
    ∃ o t, portCycle { running .data 2 71 with rspPort := some 0x14 } ⟨true, false, 0, false⟩ = .next (o, t) ∧
      o.rspValid = false ∧ o.rspData = 0x00 := ⟨_, _, rfl, by decide⟩

theorem witness_PortHandshake :
    (∃ o t, portCycle (running .data 2 71) ⟨false, true, 0x50020000, true⟩ = .next (o, t) ∧
      o.txeAck = true ∧ o.cmdReady = false) ∧
    (∃ o t, portCycle (running .data 2 71) ⟨false, true, 0x50020000, false⟩ = .next (o, t) ∧
      o.txeAck = false ∧ o.cmdReady = true) ∧
    (∃ o t, portCycle { running .data 2 71 with popPort := [.txieOn], rspPort := some 0x14 }
      ⟨false, true, 0x50020000, true⟩ = .next (o, t) ∧
      o.txeAck = false ∧ o.cmdReady = false ∧ o.rspValid = true) :=
  ⟨⟨_, _, rfl, by decide⟩, ⟨_, _, rfl, by decide⟩, ⟨_, _, rfl, by decide⟩⟩

theorem witness_ResponseInTheNextCycle :
    ∃ o t o' u, portCycle (running .data 2 71) ⟨false, true, 0x50020000, false⟩ = .next (o, t) ∧
      portCycle t ⟨false, false, 0, false⟩ = .next (o', u) ∧
      portInput (running .data 2 71) ⟨false, true, 0x50020000, false⟩ = some (.cmd 0x50020000) ∧
      decodeCommand 0x50020000 = .ok (.rdslot 2) ∧ 2 ≤ (running .data 2 71).params.maxSlots ∧
      o'.rspValid = true ∧ o'.rspData = 0x14 :=
  ⟨_, _, _, _, rfl, rfl, by decide⟩

end Sys2Proof.Tests
end

section
/-! What each instruction's meaning answers: one equation per instruction, split where the meaning branches, and what follows
for every instruction at once: when it completes and what it emits. -/

namespace Sys2Proof.Machine

open Sys2Proof

/-! Host commands. -/

/-- R108: START while active is a complete no-op. -/
theorem exec_start_of_active {s : State} (h : s.active = true) : exec .start s = .next s := by
  simp [exec, execStart, h]

/-- R100: START while inactive. -/
theorem exec_start_of_inactive {s : State} (h : s.active = false) :
    exec .start s = .next
      { ((((s.emit .flush).configureLine .data .data).moveTo .idle).clearCount).unmaskTxe with active := true } := by
  simp [exec, execStart, h]

theorem exec_stop (s : State) : exec .stop s = .next { s.maskTxe with active := false } := rfl

theorem exec_setslots (count : Nat) (s : State) :
    exec (.setslots count) s = .next { s with slotsCfg := clampSlots s.params count } := rfl

theorem exec_wrslot (idx : Nat) (val : Byte) (s : State) : exec (.wrslot idx val) s = .next (s.memWrite idx val) := rfl

theorem exec_rdslot (idx : Nat) (s : State) :
    exec (.rdslot idx) s = .next (s.respond ((s.memRead idx).getD 0x00)) := rfl

/-! TXE arms. -/

theorem exec_txeIdle (s : State) :
    exec .txeIdle s = .next (if dataSettled s.countEvent then s.countEvent.moveTo .brk else s.countEvent) := rfl

theorem exec_txeBreak (s : State) :
    exec .txeBreak s =
      .next ((((s.configureLine .brk .brk).clearCount).emit (.txwrite 0x00)).moveTo .breakSent) := rfl

theorem exec_txeBreakSent (s : State) :
    exec .txeBreakSent s = .next (if breakSettled s.countEvent then s.countEvent.moveTo .start else s.countEvent) := rfl

/-- R124: TXE.START always completes, because entry 0 always exists. -/
theorem exec_txeStart (s : State) :
    exec .txeStart s = .next
      (((((s.configureLine .data .data).openFrame).emit (.txwrite (Memory.read s.buf 0))).advance).moveTo .data) := by
  have hfirst : ((s.configureLine .data .data).openFrame).memRead 0 = some (Memory.read s.buf 0) :=
    memRead_of_le _ (Nat.zero_le _)
  simp [exec, execTxeStart, hfirst]

/-- R125: TXE.DATA where `CURSOR` names an entry. -/
theorem exec_txeData_of_le {s : State} (h : s.cursor ≤ s.params.maxSlots) :
    exec .txeData s = .next
      (let t := (s.emit (.txwrite (Memory.read s.buf s.cursor))).advance
       if frameSent t then (t.moveTo .idle).clearCount else t) := by
  simp [exec, execTxeData, memRead_of_le s h]

/-- Log entry 8: TXE.DATA where `CURSOR` names no entry. -/
theorem exec_txeData_of_lt {s : State} (h : s.params.maxSlots < s.cursor) :
    exec .txeData s = .fault (.slotOutOfRange s.cursor) := by
  simp [exec, execTxeData, memRead_of_lt s h]

/-! Peripheral operations. -/

theorem exec_cfgline (b : Baud) (f : Fmt) (s : State) : exec (.cfgline b f) s = .next (s.configureLine b f) := rfl

theorem exec_flush (s : State) : exec .flush s = .next (s.emit .flush) := rfl

theorem exec_txieOn (s : State) : exec .txieOn s = .next s.unmaskTxe := rfl

theorem exec_txieOff (s : State) : exec .txieOff s = .next s.maskTxe := rfl

theorem exec_txwrite (v : Byte) (s : State) : exec (.txwrite v) s = .next (s.emit (.txwrite v)) := rfl

/-! Every instruction. -/

/-- R160: the one way an instruction can fail to complete is a TXE.DATA whose `CURSOR` names no entry. -/
theorem exec_completes {i : Instr} {s : State} (h : i = .txeData → s.cursor ≤ s.params.maxSlots) :
    ∃ t, exec i s = .next t := by
  cases i with
  | start =>
    cases ha : s.active with
    | true => exact ⟨_, exec_start_of_active ha⟩
    | false => exact ⟨_, exec_start_of_inactive ha⟩
  | stop => exact ⟨_, exec_stop s⟩
  | setslots count => exact ⟨_, exec_setslots count s⟩
  | wrslot idx val => exact ⟨_, exec_wrslot idx val s⟩
  | rdslot idx => exact ⟨_, exec_rdslot idx s⟩
  | txeBreak => exact ⟨_, exec_txeBreak s⟩
  | txeStart => exact ⟨_, exec_txeStart s⟩
  | txeData => exact ⟨_, exec_txeData_of_le (h rfl)⟩
  | txeIdle => exact ⟨_, exec_txeIdle s⟩
  | txeBreakSent => exact ⟨_, exec_txeBreakSent s⟩
  | cfgline b f => exact ⟨_, exec_cfgline b f s⟩
  | flush => exact ⟨_, exec_flush s⟩
  | txieOn => exact ⟨_, exec_txieOn s⟩
  | txieOff => exact ⟨_, exec_txieOff s⟩
  | txwrite v => exact ⟨_, exec_txwrite v s⟩

/-- R125: a TXE.DATA that completes had a `CURSOR` that names an entry. -/
theorem cursor_le_of_exec_txeData {s t : State} (h : exec .txeData s = .next t) : s.cursor ≤ s.params.maxSlots := by
  by_contra hlt
  rw [exec_txeData_of_lt (Nat.not_le.mp hlt)] at h
  cases h

/-- R147: what an instruction appends to the POP port and to the trace is its emission list. -/
theorem exec_emits {i : Instr} {s t : State} (h : exec i s = .next t) :
    t.popPort = s.popPort ++ emissionList i s ∧ t.popTrace = s.popTrace ++ emissionList i s := by
  cases i with
  | start =>
    cases ha : s.active with
    | true => rw [exec_start_of_active ha] at h; cases h; simp [emissionList, ha]
    | false => rw [exec_start_of_inactive ha] at h; cases h; simp [emissionList, ha]
  | txeData =>
    rw [exec_txeData_of_le (cursor_le_of_exec_txeData h)] at h
    cases h
    simp [emissionList, apply_ite State.popPort, apply_ite State.popTrace]
  | txeStart => rw [exec_txeStart] at h; cases h; simp [emissionList]
  | txeIdle | txeBreakSent =>
    cases h
    simp [emissionList, apply_ite State.popPort, apply_ite State.popTrace]
  | _ => cases h; simp [emissionList]

end Sys2Proof.Machine
end

section
/-! What the words of a step decode to, what one step does with each input, and when a good state has that step. -/

namespace Sys2Proof.Machine

open Sys2Proof

/-! The words. -/

/-- R79: `PCODE << 13 | PARG`. -/
theorem popWord_eq_or (pcode : BitVec 3) (parg : BitVec 8) :
    popWord pcode parg = (pcode.setWidth 16 <<< 13) ||| parg.setWidth 16 := by
  apply BitVec.eq_of_getLsbD_eq
  intro k hk
  simp only [popWord, BitVec.getLsbD_append, BitVec.getLsbD_or, BitVec.getLsbD_shiftLeft, BitVec.getLsbD_setWidth]
  interval_cases k <;> simp

/-- R78, R120: the arm a state's code decodes to is the arm the state selects. -/
theorem decodeState_code (x : TxState) : decodeState x.code = .ok (armOf x) := by
  cases x <;> decide

/-- R120: only the state DATA selects TXE.DATA. -/
theorem armOf_eq_txeData_iff (x : TxState) : armOf x = .txeData ↔ x = .data := by
  cases x <;> decide

/-- R73: TXE.DATA has no command word. -/
theorem decodeCommand_ne_txeData {w : CommandWord} {i : Instr} (h : decodeCommand w = .ok i) : i ≠ .txeData := by
  rcases decodeCommand_shape h with rfl | rfl | ⟨n, rfl⟩ | ⟨k, v, rfl⟩ | ⟨k, rfl⟩ <;> simp

/-! The step. -/

/-- R12, R72: the step of a command word that is a command's. -/
theorem step_of_command {s : State} {w : CommandWord} {rest : List Input} {i : Instr} (hp : s.popFetch = none)
    (hi : s.inputs = .cmd w :: rest) (hw : decodeCommand w = .ok i) :
    step s = exec i { s with inputs := rest, popPort := [], rspPort := none } := by
  rw [step_of_input hp hi]
  simp [stepOn, acceptInput, hw, perform, State.beginStep]

/-- R83, R105: the step of a reserved command word (log entry 4). -/
theorem step_of_reserved_command {s : State} {w : CommandWord} {rest : List Input} {e : DecodeError}
    (hp : s.popFetch = none) (hi : s.inputs = .cmd w :: rest) (hw : decodeCommand w = .error e) :
    step s = .next { s with inputs := rest, popPort := [], rspPort := none } := by
  rw [step_of_input hp hi]
  simp [stepOn, acceptInput, hw, perform, State.beginStep]

/-- Log entry 5: the step of a placed word that is a peripheral operation's. -/
theorem step_of_pop {s : State} {p : PopWord} {i : Instr} (hp : s.popFetch = some p) (hd : decodePop p = .ok i) :
    step s = exec i { s with popFetch := none, popPort := [], rspPort := none } := by
  simp [step, fetch, acceptPop, hp, hd, perform, State.beginStep]

/-- R42, R45: in DATA the cursor of a good state names an entry. -/
theorem Inv.cursor_le_maxSlots {s : State} (h : Inv s) (hd : s.txState = .data) : s.cursor ≤ s.params.maxSlots :=
  (h.cursor_le hd).trans h.latch_range.2

/-- R54, R160: an enabled input has its step, as long as the cursor names an entry in DATA. -/
theorem stepOn_of_enabled {x : Input} {s : State} (hc : s.txState = .data → s.cursor ≤ s.params.maxSlots)
    (he : inputEnabled x s = true) : ∃ t, stepOn x s = .next t := by
  rcases stepOn_cases x s with ⟨w, i, rfl, hw, hs⟩ | ⟨w, e, rfl, hw, hs⟩ | ⟨rfl, ht, hs⟩ | ⟨rfl, ht, hs⟩ | ⟨rfl, hs⟩
  · rw [hs]
    exact exec_completes fun hi => absurd hi (decodeCommand_ne_txeData hw)
  · exact ⟨_, hs⟩
  · rw [hs]
    exact exec_completes fun hi => hc ((armOf_eq_txeData_iff _).mp hi)
  · exact absurd (ht.symm.trans he) (by decide)
  · exact ⟨_, hs⟩

/-- R163: the one input that is not enabled is a masked event, which is no step. -/
theorem stepOn_of_not_enabled {x : Input} {s : State} (he : inputEnabled x s = false) :
    stepOn x s = .refused .txeMasked := by
  rcases stepOn_cases x s with ⟨w, i, rfl, hw, hs⟩ | ⟨w, e, rfl, hw, hs⟩ | ⟨rfl, ht, hs⟩ | ⟨rfl, ht, hs⟩ | ⟨rfl, hs⟩
  · cases he
  · cases he
  · exact absurd (ht.symm.trans he) (by decide)
  · exact hs
  · cases he

/-- What is enabled does not depend on the inputs still to come. -/
theorem inputEnabled_with_inputs (x : Input) (s : State) (rest : List Input) :
    inputEnabled x { s with inputs := rest } = inputEnabled x s := by
  cases x <;> rfl

end Sys2Proof.Machine
end

section
/-! The obligations of spec/00_scope.md. -/

namespace Sys2Proof.Machine

open Sys2Proof

/-- Settles O21: the emission list of every instruction is proved once, in `exec_emits`; a reserved word runs none. -/
theorem emissionListIsComplete : Obligations.EmissionListIsComplete := by
  refine ⟨fun i s t h => exec_emits h, ?_⟩
  intro s t w rest e hp hi hw h
  rw [step_of_reserved_command hp hi hw] at h
  cases h
  exact ⟨rfl, rfl⟩

/-- Settles O37: the invariants keep the cursor in range in DATA, which is all an enabled input needs for its step; an input
that is not enabled is refused, and a refusal is neither a step nor a fault. -/
theorem enabledInputsHaveTheirStep : Obligations.EnabledInputsHaveTheirStep := by
  intro s x rest hinv hi
  rw [step_of_input hinv.no_popFetch hi, ← inputEnabled_with_inputs x s rest]
  cases he : inputEnabled x { s with inputs := rest } with
  | true =>
    obtain ⟨t, ht⟩ := stepOn_of_enabled (s := { s with inputs := rest }) hinv.cursor_le_maxSlots he
    simp [ht]
  | false => simp [stepOn_of_not_enabled he]

/-- Settles O1, one clause per source of the operation: a command word, an event, a placed word. -/
theorem stepRunsTheDecodedOperation : Obligations.StepRunsTheDecodedOperation := by
  intro s rest i
  refine ⟨fun w => step_of_command, ?_, fun p => step_of_pop⟩
  intro hp hi ht hd
  have harm : armOf s.txState = i := by simpa [decodeState_code] using hd
  rw [step_of_txe hp hi ht, harm]

/-- Settles O20: the words from R79's fields, the effects from the equations of `exec`. -/
theorem peripheralOperations : Obligations.PeripheralOperations := by
  have hwords : ∀ v : Byte, encode (.txwrite v) = .pop (0xA000#16 ||| v.setWidth 16) :=
    fun v => congrArg Code.pop (popWord_eq_or 5 v)
  refine ⟨⟨by decide, by decide, by decide, by decide, by decide, by decide, by decide, hwords⟩, fun s => ?_⟩
  exact ⟨fun b f => exec_cfgline b f s, exec_flush s, exec_txieOn s, exec_txieOff s, fun v => exec_txwrite v s⟩

/-- Settles O38: each register's largest value is an invariant, and the constraints on the parameters bound it. -/
theorem registersFitTheirWidths : Obligations.RegistersFitTheirWidths := by
  intro s h
  have hmax := h.params.max_le_ceiling
  have hsettle := h.params.settle_fits
  obtain ⟨_, hcfg⟩ := h.cfg_range
  obtain ⟨_, hlatch⟩ := h.latch_range
  have hcursor := h.cursor_max
  have hcount := h.count_max
  refine ⟨by omega, by omega, by omega, by omega, fun c hc => ?_⟩
  exact Nat.lt_succ_of_le (h.buf_range c hc)

end Sys2Proof.Machine
end

section
/-! The branches of the instructions' meanings as equations of their own, the writers and the readers of the working registers
(spec/10_state.md R25), and the reset table (R47). -/

namespace Sys2Proof.Machine

open Sys2Proof

/-! The branches. -/

/-- R121: the event whose count exceeds `DATA_SETTLE` leaves IDLE. -/
theorem exec_txeIdle_of_lt {s : State} (h : s.params.dataSettle < s.idleCount + 1) :
    exec .txeIdle s = .next (s.countEvent.moveTo .brk) := by
  rw [exec_txeIdle, if_pos ((dataSettled_iff _).mpr h)]

/-- R121: an event whose count does not exceed `DATA_SETTLE` only counts. -/
theorem exec_txeIdle_of_le {s : State} (h : s.idleCount + 1 ≤ s.params.dataSettle) :
    exec .txeIdle s = .next s.countEvent := by
  rw [exec_txeIdle, if_neg (mt (dataSettled_iff _).mp (Nat.not_lt.mpr h))]

/-- R123: the event whose count exceeds `BREAK_SETTLE` leaves BREAK_SENT. -/
theorem exec_txeBreakSent_of_lt {s : State} (h : s.params.breakSettle < s.idleCount + 1) :
    exec .txeBreakSent s = .next (s.countEvent.moveTo .start) := by
  rw [exec_txeBreakSent, if_pos ((breakSettled_iff _).mpr h)]

/-- R123: an event whose count does not exceed `BREAK_SETTLE` only counts. -/
theorem exec_txeBreakSent_of_le {s : State} (h : s.idleCount + 1 ≤ s.params.breakSettle) :
    exec .txeBreakSent s = .next s.countEvent := by
  rw [exec_txeBreakSent, if_neg (mt (breakSettled_iff _).mp (Nat.not_lt.mpr h))]

/-- R125: the last run of TXE.DATA in a frame. -/
theorem exec_txeData_of_last {s : State} (hc : s.cursor ≤ s.params.maxSlots) (hl : s.slotsLatch < s.cursor + 1) :
    exec .txeData s = .next
      ((((s.emit (.txwrite (Memory.read s.buf s.cursor))).advance).moveTo .idle).clearCount) := by
  rw [exec_txeData_of_le hc]
  exact congrArg _ (if_pos ((frameSent_iff _).mpr hl))

/-- R125: a run of TXE.DATA that is not the last of its frame. -/
theorem exec_txeData_of_not_last {s : State} (hc : s.cursor ≤ s.params.maxSlots) (hl : s.cursor + 1 ≤ s.slotsLatch) :
    exec .txeData s = .next ((s.emit (.txwrite (Memory.read s.buf s.cursor))).advance) := by
  rw [exec_txeData_of_le hc]
  exact congrArg _ (if_neg (mt (frameSent_iff _).mp (Nat.not_lt.mpr hl)))

/-- R103: a WRSLOT whose index names an entry. -/
theorem exec_wrslot_of_le {s : State} {idx : Nat} (val : Byte) (h : idx ≤ s.params.maxSlots) :
    exec (.wrslot idx val) s = .next { s with buf := Memory.write s.buf idx val } := by
  rw [exec_wrslot, memWrite_of_le s val h]

/-- R55, R103: a WRSLOT whose index names no entry (log entry 3). -/
theorem exec_wrslot_of_lt {s : State} {idx : Nat} (val : Byte) (h : s.params.maxSlots < idx) :
    exec (.wrslot idx val) s = .next s := by
  rw [exec_wrslot, memWrite_of_lt s val h]

/-! The working registers. -/

/-- R25, the writers: which operations can change `STATE`, `CURSOR`, `IDLE_COUNT` and `SLOTS_LATCH`. -/
theorem exec_writes_working {i : Instr} {s t : State} (h : exec i s = .next t) :
    (t.txState ≠ s.txState → i = .txeIdle ∨ i = .txeBreak ∨ i = .txeBreakSent ∨ i = .txeStart ∨ i = .txeData ∨
      (i = .start ∧ s.active = false)) ∧
    (t.cursor ≠ s.cursor → i = .txeStart ∨ i = .txeData) ∧
    (t.idleCount ≠ s.idleCount → i = .txeIdle ∨ i = .txeBreak ∨ i = .txeBreakSent ∨
      (i = .txeData ∧ s.slotsLatch < s.cursor + 1) ∨ (i = .start ∧ s.active = false)) ∧
    (t.slotsLatch ≠ s.slotsLatch → i = .txeStart) := by
  cases i with
  | start =>
    cases ha : s.active with
    | true => rw [exec_start_of_active ha] at h; cases h; simp
    | false => rw [exec_start_of_inactive ha] at h; cases h; simp
  | txeStart => rw [exec_txeStart] at h; cases h; simp
  | txeData =>
    have hc := cursor_le_of_exec_txeData h
    rcases Nat.lt_or_ge s.slotsLatch (s.cursor + 1) with hl | hl
    · rw [exec_txeData_of_last hc hl] at h; cases h; simp [hl]
    · rw [exec_txeData_of_not_last hc hl] at h; cases h; simp
  | txeIdle | txeBreakSent => cases h; simp [apply_ite State.cursor, apply_ite State.slotsLatch]
  | _ => cases h; simp

/-- The state with other values in its four working registers. -/
def State.withWorking (s : State) (x : TxState) (c k n : Nat) : State :=
  { s with txState := x, cursor := c, idleCount := k, slotsLatch := n }

/-- R25, the readers: an operation run over other values of the working registers, but for those it reads, does the same to
all else, and a register whose value was not changed ends with the value it would have had. -/
theorem exec_withWorking {i : Instr} {s t : State} (x : TxState) (c k n : Nat) (h : exec i s = .next t)
    (hdata : i = .txeData → c = s.cursor ∧ n = s.slotsLatch)
    (hcount : i = .txeIdle ∨ i = .txeBreakSent → k = s.idleCount) :
    ∃ x' c' k' n', exec i (s.withWorking x c k n) = .next (t.withWorking x' c' k' n') ∧
      (x = s.txState → x' = t.txState) ∧ (c = s.cursor → c' = t.cursor) ∧
      (k = s.idleCount → k' = t.idleCount) ∧ (n = s.slotsLatch → n' = t.slotsLatch) := by
  cases i with
  | start =>
    cases ha : s.active with
    | true =>
      rw [exec_start_of_active ha] at h; cases h
      exact ⟨x, c, k, n, exec_start_of_active ha, id, id, id, id⟩
    | false =>
      rw [exec_start_of_inactive ha] at h; cases h
      exact ⟨.idle, c, 0, n, exec_start_of_inactive ha, fun _ => rfl, id, fun _ => rfl, id⟩
  | wrslot idx val =>
    rcases Nat.lt_or_ge s.params.maxSlots idx with hi | hi
    · rw [exec_wrslot_of_lt val hi] at h; cases h
      exact ⟨x, c, k, n, exec_wrslot_of_lt val hi, id, id, id, id⟩
    · rw [exec_wrslot_of_le val hi] at h; cases h
      exact ⟨x, c, k, n, exec_wrslot_of_le val hi, id, id, id, id⟩
  | txeStart =>
    rw [exec_txeStart] at h; cases h
    exact ⟨.data, 1, k, s.slotsCfg, exec_txeStart _, fun _ => rfl, fun _ => rfl, id, fun _ => rfl⟩
  | txeBreak =>
    cases h
    exact ⟨.breakSent, c, 0, n, rfl, fun _ => rfl, id, fun _ => rfl, id⟩
  | txeIdle =>
    obtain rfl := hcount (.inl rfl)
    rcases Nat.lt_or_ge s.params.dataSettle (s.idleCount + 1) with hk | hk
    · rw [exec_txeIdle_of_lt hk] at h; cases h
      exact ⟨.brk, c, _, n, exec_txeIdle_of_lt hk, fun _ => rfl, id, fun _ => rfl, id⟩
    · rw [exec_txeIdle_of_le hk] at h; cases h
      exact ⟨x, c, _, n, exec_txeIdle_of_le hk, id, id, fun _ => rfl, id⟩
  | txeBreakSent =>
    obtain rfl := hcount (.inr rfl)
    rcases Nat.lt_or_ge s.params.breakSettle (s.idleCount + 1) with hk | hk
    · rw [exec_txeBreakSent_of_lt hk] at h; cases h
      exact ⟨.start, c, _, n, exec_txeBreakSent_of_lt hk, fun _ => rfl, id, fun _ => rfl, id⟩
    · rw [exec_txeBreakSent_of_le hk] at h; cases h
      exact ⟨x, c, _, n, exec_txeBreakSent_of_le hk, id, id, fun _ => rfl, id⟩
  | txeData =>
    obtain ⟨rfl, rfl⟩ := hdata rfl
    have hc := cursor_le_of_exec_txeData h
    rcases Nat.lt_or_ge s.slotsLatch (s.cursor + 1) with hl | hl
    · rw [exec_txeData_of_last hc hl] at h; cases h
      exact ⟨.idle, _, 0, _, exec_txeData_of_last hc hl, fun _ => rfl, fun _ => rfl, fun _ => rfl, fun _ => rfl⟩
    · rw [exec_txeData_of_not_last hc hl] at h; cases h
      exact ⟨x, _, k, _, exec_txeData_of_not_last hc hl, id, fun _ => rfl, id, fun _ => rfl⟩
  | _ => cases h; exact ⟨x, c, k, n, rfl, id, id, id, id⟩

/-! The codes of `STATE`. -/

/-- R78: a state is the one its code names. -/
theorem ofCode_code (x : TxState) : TxState.ofCode x.code = some x := by
  cases x <;> decide

/-- R84: the reserved state codes. -/
theorem eq_reserved_of_five_le {c : StateCode} (h : 5 ≤ c.toNat) : c = 5#3 ∨ c = 6#3 ∨ c = 7#3 := by
  revert c; decide

end Sys2Proof.Machine
end

section
/-! The invariants of spec/10_state.md section 8: they hold after reset, and each operation that can run in a good state
keeps them. Each lemma names the clauses its operation touches; the others hold as they did. -/

namespace Sys2Proof.Machine

open Sys2Proof

/-- Log entry 2: the reference parameters meet the constraints. -/
theorem reference_valid : Params.reference.Valid := by
  constructor <;> decide

/-- R47: the reset state is a good state. -/
theorem inv_resetWith {p : Params} (hp : p.Valid) : Inv (State.resetWith p) where
  params := hp
  cursor_pos := nofun
  cursor_le := nofun
  cursor_max := Nat.zero_le _
  idle_le _ := Nat.zero_le _
  breakSent_le := nofun
  count_max := Nat.zero_le _
  txie_eq := rfl
  cfg_range := ⟨hp.min_le_max, le_rfl⟩
  latch_range := ⟨hp.min_le_max, le_rfl⟩
  line := rfl
  buf_wf := reset_buf_wf p
  buf_range := nofun
  no_popFetch := rfl

/-- R190: a reset leads to a good state. -/
theorem inv_hardwareReset {s : State} (hp : s.params.Valid) : Inv (hardwareReset s) :=
  { inv_resetWith hp with }

/-- The inputs to come are no part of the invariants. -/
theorem Inv.with_inputs {s : State} (h : Inv s) (rest : List Input) : Inv { s with inputs := rest } :=
  { h with }

theorem Inv.beginStep {s : State} (h : Inv s) : Inv s.beginStep :=
  { h with }

/-! Host commands. -/

/-- R100: START while inactive, which clears the count, goes to IDLE and sets `TXIE` and `ACTIVE` together. -/
theorem Inv.after_start {s t : State} (h : Inv s) (ht : exec .start s = .next t) : Inv t := by
  cases ha : s.active with
  | true => rw [exec_start_of_active ha] at ht; cases ht; exact h
  | false =>
    rw [exec_start_of_inactive ha] at ht; cases ht
    exact { h with
      cursor_pos := nofun, cursor_le := nofun, idle_le := fun _ => Nat.zero_le _, breakSent_le := nofun
      count_max := Nat.zero_le _, txie_eq := rfl, line := rfl }

/-- R101: STOP clears `TXIE` and `ACTIVE` together. -/
theorem Inv.after_stop {s t : State} (h : Inv s) (ht : exec .stop s = .next t) : Inv t := by
  cases ht
  exact { h with txie_eq := rfl }

/-- R102: SETSLOTS clamps. -/
theorem Inv.after_setslots {s t : State} {count : Nat} (h : Inv s) (ht : exec (.setslots count) s = .next t) : Inv t := by
  cases ht
  exact { h with cfg_range := clampSlots_range h.params.min_le_max count }

/-- R103: WRSLOT keeps the buffer's form and capacity. -/
theorem Inv.after_wrslot {s t : State} {idx : Nat} {val : Byte} (h : Inv s) (ht : exec (.wrslot idx val) s = .next t) :
    Inv t := by
  rcases Nat.lt_or_ge s.params.maxSlots idx with hi | hi
  · rw [exec_wrslot_of_lt val hi] at ht; cases ht
    exact h
  · rw [exec_wrslot_of_le val hi] at ht; cases ht
    have hrange := memWrite_range s idx val h.buf_range
    rw [memWrite_of_le s val hi] at hrange
    exact { h with buf_wf := Memory.wf_write idx val h.buf_wf, buf_range := hrange }

/-- R104: RDSLOT only responds. -/
theorem Inv.after_rdslot {s t : State} {idx : Nat} (h : Inv s) (ht : exec (.rdslot idx) s = .next t) : Inv t := by
  cases ht
  exact { h with }

/-- R72, R73: every host command keeps the invariants. -/
theorem Inv.after_command {s t : State} {w : CommandWord} {i : Instr} (h : Inv s) (hw : decodeCommand w = .ok i)
    (ht : exec i s = .next t) : Inv t := by
  rcases decodeCommand_shape hw with rfl | rfl | ⟨n, rfl⟩ | ⟨k, v, rfl⟩ | ⟨k, rfl⟩
  · exact h.after_start ht
  · exact h.after_stop ht
  · exact h.after_setslots ht
  · exact h.after_wrslot ht
  · exact h.after_rdslot ht

/-! TXE arms, each in its own state. -/

/-- R121: IDLE counts to `DATA_SETTLE`, and the one count above it leads to BREAK. -/
theorem Inv.after_txeIdle {s t : State} (h : Inv s) (hx : s.txState = .idle) (ht : exec .txeIdle s = .next t) : Inv t := by
  have hle := h.idle_le hx
  have hsettle := h.params.settle_lt
  have hline : (s.lineBaud, s.lineFmt) = lineFor .idle := hx ▸ h.line
  have hmax : s.idleCount + 1 ≤ s.params.breakSettle + 1 := by omega
  rcases Nat.lt_or_ge s.params.dataSettle (s.idleCount + 1) with hk | hk
  · rw [exec_txeIdle_of_lt hk] at ht; cases ht
    exact { h with
      cursor_pos := nofun, cursor_le := nofun, idle_le := nofun, breakSent_le := nofun
      count_max := hmax, line := hline }
  · rw [exec_txeIdle_of_le hk] at ht; cases ht
    exact { h with
      idle_le := fun _ => hk, count_max := hmax
      breakSent_le := fun hb => absurd (hx.symm.trans hb) (by decide) }

/-- R122: BREAK clears the count and goes to break rate and break format. -/
theorem Inv.after_txeBreak {s t : State} (h : Inv s) (ht : exec .txeBreak s = .next t) : Inv t := by
  cases ht
  exact { h with
    cursor_pos := nofun, cursor_le := nofun, idle_le := nofun, breakSent_le := fun _ => Nat.zero_le _
    count_max := Nat.zero_le _, line := rfl }

/-- R123: BREAK_SENT counts to `BREAK_SETTLE`, and the one count above it leads to START. -/
theorem Inv.after_txeBreakSent {s t : State} (h : Inv s) (hx : s.txState = .breakSent)
    (ht : exec .txeBreakSent s = .next t) : Inv t := by
  have hline : (s.lineBaud, s.lineFmt) = lineFor .breakSent := hx ▸ h.line
  have hmax : s.idleCount + 1 ≤ s.params.breakSettle + 1 := Nat.succ_le_succ (h.breakSent_le hx)
  rcases Nat.lt_or_ge s.params.breakSettle (s.idleCount + 1) with hk | hk
  · rw [exec_txeBreakSent_of_lt hk] at ht; cases ht
    exact { h with
      cursor_pos := nofun, cursor_le := nofun, idle_le := nofun, breakSent_le := nofun
      count_max := hmax, line := hline }
  · rw [exec_txeBreakSent_of_le hk] at ht; cases ht
    exact { h with
      breakSent_le := fun _ => hk, count_max := hmax
      idle_le := fun hi => absurd (hx.symm.trans hi) (by decide) }

/-- R124: TXE.START latches at least one slot, because `1 <= MIN_SLOTS`, so its cursor 1 is in the frame. -/
theorem Inv.after_txeStart {s t : State} (h : Inv s) (ht : exec .txeStart s = .next t) : Inv t := by
  rw [exec_txeStart] at ht; cases ht
  have hone : 1 ≤ s.slotsCfg := h.params.one_le_min.trans h.cfg_range.1
  exact { h with
    cursor_pos := fun _ => le_rfl, cursor_le := fun _ => hone, cursor_max := Nat.succ_le_succ (Nat.zero_le _)
    idle_le := nofun, breakSent_le := nofun, latch_range := h.cfg_range, line := rfl }

/-- R125: TXE.DATA goes idle as soon as the advanced cursor exceeds the latch, so the cursor ends at most one above it. -/
theorem Inv.after_txeData {s t : State} (h : Inv s) (hx : s.txState = .data) (ht : exec .txeData s = .next t) : Inv t := by
  have hc := h.cursor_le_maxSlots hx
  have hline : (s.lineBaud, s.lineFmt) = lineFor .data := hx ▸ h.line
  rcases Nat.lt_or_ge s.slotsLatch (s.cursor + 1) with hl | hl
  · rw [exec_txeData_of_last hc hl] at ht; cases ht
    exact { h with
      cursor_pos := nofun, cursor_le := nofun, cursor_max := Nat.succ_le_succ hc
      idle_le := fun _ => Nat.zero_le _, breakSent_le := nofun, count_max := Nat.zero_le _, line := hline }
  · rw [exec_txeData_of_not_last hc hl] at ht; cases ht
    exact { h with
      cursor_pos := fun _ => Nat.succ_le_succ (Nat.zero_le _), cursor_le := fun _ => hl
      cursor_max := Nat.succ_le_succ hc }

/-- R120: the arm the state selects keeps the invariants. -/
theorem Inv.after_arm {s t : State} (h : Inv s) (ht : exec (armOf s.txState) s = .next t) : Inv t := by
  cases hx : s.txState <;> rw [hx] at ht
  case idle => exact h.after_txeIdle hx ht
  case brk => exact h.after_txeBreak ht
  case breakSent => exact h.after_txeBreakSent hx ht
  case start => exact h.after_txeStart ht
  case data => exact h.after_txeData hx ht

/-! The step. -/

/-- R41 to R46: whatever the input, a step from a good state leads to a good state. -/
theorem Inv.after_stepOn {x : Input} {s t : State} (h : Inv s) (ht : stepOn x s = .next t) : Inv t := by
  rcases stepOn_cases x s with ⟨w, i, rfl, hw, hs⟩ | ⟨w, e, rfl, hw, hs⟩ | ⟨rfl, _, hs⟩ | ⟨rfl, _, hs⟩ | ⟨rfl, hs⟩ <;>
    rw [hs] at ht
  · exact h.beginStep.after_command hw ht
  · cases ht; exact h.beginStep
  · exact h.beginStep.after_arm ht
  · cases ht
  · cases ht; exact inv_hardwareReset h.params

end Sys2Proof.Machine
end

section
/-! What one cycle of the pins does: which input it takes, and the two ways a cycle has its outcome (spec/40_host_commands.md
R106, spec/42_peripheral_ops.md R151, spec/60_exceptions.md R168, R169). -/

namespace Sys2Proof.Machine

open Sys2Proof

/-- R151: the POP port is busy while an operation is left to present. -/
theorem portBusy_eq_false_iff (s : State) : portBusy s = false ↔ s.popPort = [] := by
  simp [portBusy]

/-- R168: when an event is taken, without `rst`. -/
theorem portTakesEvent_iff {p : PortIn} (s : State) (hr : p.rst = false) :
    portTakesEvent s p = true ↔ s.popPort = [] ∧ p.txeReq = true ∧ s.txie = true := by
  simp [portTakesEvent, hr, portBusy_eq_false_iff, and_assoc]

/-- R106, R169: when a command can be taken, without `rst`. -/
theorem portCmdReady_iff {p : PortIn} (s : State) (hr : p.rst = false) :
    portCmdReady s p = true ↔ s.popPort = [] ∧ portTakesEvent s p = false := by
  simp [portCmdReady, hr, portBusy_eq_false_iff]

/-- R169: the event comes first. -/
theorem portInput_of_event {s : State} {p : PortIn} (hr : p.rst = false) (he : portTakesEvent s p = true) :
    portInput s p = some .txe := by
  simp [portInput, hr, he]

theorem portInput_of_command {s : State} {p : PortIn} (hr : p.rst = false) (hc : portCmdReady s p = true)
    (hv : p.cmdValid = true) : portInput s p = some (.cmd p.cmdWord) := by
  have he := ((portCmdReady_iff s hr).mp hc).2
  simp [portInput, hr, he, hc, hv]

theorem portInput_of_neither {s : State} {p : PortIn} (hr : p.rst = false) (he : portTakesEvent s p = false)
    (hc : portCmdReady s p = false ∨ p.cmdValid = false) : portInput s p = none := by
  rcases hc with hc | hv
  · simp [portInput, hr, he, hc]
  · simp [portInput, hr, he, hv]

/-- R140, R151: a cycle that takes an input shows the step's state and presents one of its operations. -/
theorem portCycle_of_input {s t : State} {p : PortIn} {x : Input} {o : PortOut} (hx : portInput s p = some x)
    (h : portCycle s p = .next (o, t)) :
    ∃ u, stepOn x s = .next u ∧ o = portOut s p u ∧ t = { u with popPort := u.popPort.tail } := by
  simp only [portCycle, hx] at h
  cases hu : stepOn x s with
  | next u => rw [hu] at h; cases h; exact ⟨u, rfl, rfl, rfl⟩
  | fault r => rw [hu] at h; cases h
  | refused r => rw [hu] at h; cases h

/-- R151: a cycle that takes no input presents the next operation left. -/
theorem portCycle_of_no_input {s : State} {p : PortIn} (hx : portInput s p = none) :
    portCycle s p =
      .next (portOut s p { s with rspPort := none }, { s with popPort := s.popPort.tail, rspPort := none }) := by
  simp only [portCycle, hx]

/-- The outputs of a cycle are `portOut` for the state whose operation it presents. -/
theorem exists_portOut {s t : State} {p : PortIn} {o : PortOut} (h : portCycle s p = .next (o, t)) :
    ∃ u, o = portOut s p u := by
  cases hx : portInput s p with
  | none => rw [portCycle_of_no_input hx] at h; cases h; exact ⟨_, rfl⟩
  | some x =>
    obtain ⟨u, _, ho, _⟩ := portCycle_of_input hx h
    exact ⟨u, ho⟩

/-- R140: `pop_valid` shows that an operation is there to present. -/
theorem portOut_popValid_iff (s t : State) (p : PortIn) : (portOut s p t).popValid = true ↔ t.popPort ≠ [] := by
  simp [portOut]

/-- R106: `rsp_valid` shows that a response is due, without `rst`. -/
theorem portOut_rspValid_iff {p : PortIn} (s t : State) (hr : p.rst = false) :
    (portOut s p t).rspValid = true ↔ s.rspPort ≠ none := by
  simp [portOut, hr, Option.isSome_iff_ne_none]

theorem portOut_rspData {s t : State} {p : PortIn} {v : Byte} (hr : p.rst = false) (hv : s.rspPort = some v) :
    (portOut s p t).rspData = v := by
  simp [portOut, hr, hv]

end Sys2Proof.Machine
end

section
/-! The obligations of spec/10_state.md. -/

namespace Sys2Proof.Machine

open Sys2Proof

/-- Settles O35: a good state's step is the reaction to its next input, and every reaction keeps the invariants. -/
theorem invariantsAreKeptByEveryStep : Obligations.InvariantsAreKeptByEveryStep := by
  intro s t h ht
  cases hi : s.inputs with
  | nil => rw [step_of_no_input h.no_popFetch hi] at ht; cases ht
  | cons x rest =>
    rw [step_of_input h.no_popFetch hi] at ht
    exact (h.with_inputs rest).after_stepOn ht

/-- Settles O25, operation by operation, from the equations of `exec`. -/
theorem positionMoves : Obligations.PositionMoves := by
  intro s t
  refine ⟨?idle, ?brk, ?breakSent, ?start, ?data, ?inactive, ?active, ?host, ?reserved⟩
  case idle =>
    intro hx h
    rcases Nat.lt_or_ge s.params.dataSettle (s.idleCount + 1) with hk | hk
    · rw [exec_txeIdle_of_lt hk] at h; cases h; simp [hk]
    · rw [exec_txeIdle_of_le hk] at h; cases h; simp [hx, Nat.not_lt.mpr hk]
  case brk =>
    intro h; cases h; exact ⟨rfl, rfl⟩
  case breakSent =>
    intro hx h
    rcases Nat.lt_or_ge s.params.breakSettle (s.idleCount + 1) with hk | hk
    · rw [exec_txeBreakSent_of_lt hk] at h; cases h; simp [hk]
    · rw [exec_txeBreakSent_of_le hk] at h; cases h; simp [hx, Nat.not_lt.mpr hk]
  case start =>
    intro h; rw [exec_txeStart] at h; cases h; exact ⟨rfl, rfl⟩
  case data =>
    intro hx h
    have hc := cursor_le_of_exec_txeData h
    rcases Nat.lt_or_ge s.slotsLatch (s.cursor + 1) with hl | hl
    · rw [exec_txeData_of_last hc hl] at h; cases h; simp [Nat.not_le.mpr hl]
    · rw [exec_txeData_of_not_last hc hl] at h; cases h; simp [hl, hx]
  case inactive =>
    intro ha h; rw [exec_start_of_inactive ha] at h; cases h; exact ⟨rfl, rfl⟩
  case active =>
    intro ha h; rw [exec_start_of_active ha] at h; cases h; exact ⟨rfl, rfl⟩
  case host =>
    rintro i (rfl | ⟨n, rfl⟩ | ⟨k, v, rfl⟩ | ⟨k, rfl⟩) h <;> cases h <;> simp
  case reserved =>
    intro w rest e hp hi hw h
    rw [step_of_reserved_command hp hi hw] at h
    cases h
    exact ⟨rfl, rfl⟩

/-- Settles O26: the writers are `exec_writes_working`; the readers are `exec_withWorking` with one register changed. -/
theorem accessToWorkingRegisters : Obligations.AccessToWorkingRegisters := by
  refine ⟨fun i s t h => exec_writes_working h, fun i s t h => ?_⟩
  refine ⟨fun x => ?_, fun c hd => ?_, fun k hi hb => ?_, fun n hd => ?_⟩
  · obtain ⟨x', c', k', n', hu, -, hc, hk, hn⟩ :=
      exec_withWorking x s.cursor s.idleCount s.slotsLatch h (fun _ => ⟨rfl, rfl⟩) (fun _ => rfl)
    rw [hc rfl, hk rfl, hn rfl] at hu
    exact ⟨_, hu, rfl⟩
  · obtain ⟨x', c', k', n', hu, hx, -, hk, hn⟩ :=
      exec_withWorking s.txState c s.idleCount s.slotsLatch h (fun hi => absurd hi hd) (fun _ => rfl)
    rw [hx rfl, hk rfl, hn rfl] at hu
    exact ⟨_, hu, rfl⟩
  · obtain ⟨x', c', k', n', hu, hx, hc, -, hn⟩ :=
      exec_withWorking s.txState s.cursor k s.slotsLatch h (fun _ => ⟨rfl, rfl⟩) (fun ha => absurd ha (by simp [hi, hb]))
    rw [hx rfl, hc rfl, hn rfl] at hu
    exact ⟨_, hu, rfl⟩
  · obtain ⟨x', c', k', n', hu, hx, hc, hk, -⟩ :=
      exec_withWorking s.txState s.cursor s.idleCount n h (fun hi => absurd hi hd) (fun _ => rfl)
    rw [hx rfl, hc rfl, hk rfl] at hu
    exact ⟨_, hu, rfl⟩

/-- Settles O5: the registers are the definition's; that an event is no step is R163, because `TXIE = 0`. -/
theorem resetTable : Obligations.ResetTable := by
  refine ⟨fun p => ?_, Params.reference, rfl, rfl⟩
  have hmasked : ∀ rest, step { State.resetWith p with inputs := .txe :: rest } = .refused .txeMasked := fun rest =>
    (step_of_input rfl rfl).trans (stepOn_of_not_enabled rfl)
  exact ⟨rfl, rfl, rfl, rfl, rfl, rfl, rfl, rfl, rfl, Memory.read_nil, rfl, rfl, hmasked⟩

/-- Settles O33: `o_state` is the code of `STATE`; of the eight codes, only 5, 6 and 7 are no state's. -/
theorem stateCodesSelectTheArms : Obligations.StateCodesSelectTheArms := by
  refine ⟨fun s => ⟨ofCode_code s.txState, decodeState_code s.txState⟩, fun c hc => ?_⟩
  rcases eq_reserved_of_five_le hc with rfl | rfl | rfl <;> decide

/-- Settles O34: the second conjunct is the first at the reference parameters, which meet the constraints. -/
theorem invariantsHoldAtReset : Obligations.InvariantsHoldAtReset :=
  ⟨fun _ => inv_resetWith, inv_resetWith reference_valid⟩

/-- Settles O48: the input taken by the three ways a cycle without `rst` can go, the outputs from `portOut`. -/
theorem portHandshake : Obligations.PortHandshake := by
  intro s t p o hr h
  obtain ⟨u, rfl⟩ := exists_portOut h
  refine ⟨portTakesEvent_iff s hr, portCmdReady_iff s hr, portInput_of_event hr, portInput_of_command hr, ?taken, ?none,
    portOut_rspValid_iff s u hr, fun v => portOut_rspData hr, rfl, rfl, rfl⟩
  case taken =>
    intro x hx
    obtain ⟨u', hu, ho, ht⟩ := portCycle_of_input hx h
    rw [ho]
    exact ⟨u', hu, ht, portOut_popValid_iff s u' p⟩
  case none =>
    intro he hc
    rw [portCycle_of_no_input (portInput_of_neither hr he hc)] at h
    obtain ⟨ho, ht⟩ := Prod.mk.inj (Host.Outcome.next.inj h)
    rw [← ho]
    exact ⟨ht.symm, portOut_popValid_iff s _ p⟩

end Sys2Proof.Machine
end

section
/-! The slot buffer as the instructions see it (spec/20_memory.md): the words of WRSLOT and RDSLOT, which instruction writes
which of the caller's registers, what an arm reads of the buffer, and runs over a buffer that is written meanwhile. -/

namespace Sys2Proof.Machine

open Sys2Proof

/-! The words of WRSLOT and RDSLOT. -/

/-- R75: an index in range, widened to a word. -/
theorem setWidth_index {idx : Nat} (h : idx < 1024) : (BitVec.ofNat 10 idx).setWidth 32 = BitVec.ofNat 32 idx := by
  apply BitVec.eq_of_toNat_eq
  simp only [BitVec.toNat_setWidth, BitVec.toNat_ofNat]
  omega

/-- R71: the five fields of a built word. -/
theorem commandWord_fields (opc : BitVec 4) (idx : BitVec 10) (val : Byte) :
    (commandWord opc idx val).extractLsb' 28 4 = opc ∧ (commandWord opc idx val).extractLsb' 26 2 = 0#2 ∧
    (commandWord opc idx val).extractLsb' 16 10 = idx ∧ (commandWord opc idx val).extractLsb' 8 8 = 0#8 ∧
    (commandWord opc idx val).extractLsb' 0 8 = val := by
  have h : _ = opc ++ 0#2 ++ idx ++ 0#8 ++ val := (command_fields (commandWord opc idx val)).symm
  simpa only [append_eq_append_iff_fields, and_assoc] using h

/-- R72, R103: the word that a script writes for WRSLOT decodes to it; the rows before it have other `OPC`s. -/
theorem decodeCommand_wrslot_word {idx : Nat} (val : Byte) (h : idx < 1024) :
    decodeCommand (commandWord 4 (BitVec.ofNat 10 idx) val) = .ok (.wrslot idx val) := by
  obtain ⟨hopc, hz, -, hz', -⟩ := commandWord_fields 4 (BitVec.ofNat 10 idx) val
  have hstart := mt (rowFits_start _ (fun _ => .start)).mp (fun hf => absurd (hopc.symm.trans hf.1) (by decide))
  have hstop := mt (rowFits_stop _ (fun _ => .stop)).mp (fun hf => absurd (hopc.symm.trans hf.1) (by decide))
  have hsetslots := mt (rowFits_setslots _ (fun w => .setslots (fieldIdx w))).mp
    (fun hf => absurd (hopc.symm.trans hf.1) (by decide))
  have hwrslot := (rowFits_wrslot _ (fun w => .wrslot (fieldIdx w) (fieldVal w))).mpr ⟨hopc, hz, hz'⟩
  rw [decodeCommand_ok_iff, decodeWith, commandRows, List.find?_cons_of_neg hstart, List.find?_cons_of_neg hstop,
    List.find?_cons_of_neg hsetslots, List.find?_cons_of_pos hwrslot]
  simp [fieldIdx_commandWord, fieldVal_commandWord, Nat.mod_eq_of_lt h]

/-- R72, R73: no command word is an arm's or a peripheral operation's. -/
theorem decodeCommand_ne_arm_or_pop {w : CommandWord} {i : Instr} (h : decodeCommand w = .ok i) :
    (i ≠ .txeIdle ∧ i ≠ .txeBreak ∧ i ≠ .txeBreakSent ∧ i ≠ .txeStart ∧ i ≠ .txeData) ∧
    (i ≠ .txieOn ∧ i ≠ .txieOff ∧ ∀ b f, i ≠ .cfgline b f) := by
  rcases decodeCommand_shape h with rfl | rfl | ⟨n, rfl⟩ | ⟨k, v, rfl⟩ | ⟨k, rfl⟩ <;> simp

/-- R57: no arm is a WRSLOT. -/
theorem armOf_ne_wrslot (x : TxState) (k : Nat) (v : Byte) : armOf x ≠ .wrslot k v := by
  cases x <;> simp [armOf]

/-! What is written. -/

/-- R57, R60: what a read returns after a write, at every index. -/
theorem Memory.read_write {m : Memory} (i j : Nat) (v : Byte) (h : Memory.wf m) :
    Memory.read (Memory.write m i v) j = if j = i then v else Memory.read m j := by
  split
  · next hj => rw [hj, Memory.read_write_self i v h]
  · next hj => exact Memory.read_write_of_ne m v hj

/-- R52, R57, R172: which instructions can change the buffer, the caller's registers, the responses and the line. -/
theorem exec_writes_caller_state {i : Instr} {s t : State} (h : exec i s = .next t) :
    (t.buf ≠ s.buf → ∃ k v, i = .wrslot k v) ∧
    (t.slotsCfg ≠ s.slotsCfg → ∃ n, i = .setslots n) ∧
    (t.active ≠ s.active → i = .start ∨ i = .stop) ∧
    (t.txie ≠ s.txie → i = .start ∨ i = .stop ∨ i = .txieOn ∨ i = .txieOff) ∧
    (t.responses ≠ s.responses → ∃ k, i = .rdslot k) ∧
    (t.lineBaud ≠ s.lineBaud ∨ t.lineFmt ≠ s.lineFmt →
      (i = .start ∧ s.active = false) ∨ i = .txeBreak ∨ i = .txeStart ∨ ∃ b f, i = .cfgline b f) := by
  cases i with
  | start =>
    cases ha : s.active with
    | true => rw [exec_start_of_active ha] at h; cases h; simp [ha]
    | false => rw [exec_start_of_inactive ha] at h; cases h; simp
  | txeStart => rw [exec_txeStart] at h; cases h; simp
  | txeData =>
    have hc := cursor_le_of_exec_txeData h
    rcases Nat.lt_or_ge s.slotsLatch (s.cursor + 1) with hl | hl
    · rw [exec_txeData_of_last hc hl] at h; cases h; simp
    · rw [exec_txeData_of_not_last hc hl] at h; cases h; simp
  | txeIdle =>
    rcases Nat.lt_or_ge s.params.dataSettle (s.idleCount + 1) with hk | hk
    · rw [exec_txeIdle_of_lt hk] at h; cases h; simp
    · rw [exec_txeIdle_of_le hk] at h; cases h; simp
  | txeBreakSent =>
    rcases Nat.lt_or_ge s.params.breakSettle (s.idleCount + 1) with hk | hk
    · rw [exec_txeBreakSent_of_lt hk] at h; cases h; simp
    · rw [exec_txeBreakSent_of_le hk] at h; cases h; simp
  | _ => cases h; simp

/-- R57: an instruction that is no WRSLOT to an index leaves that entry as it was. -/
theorem exec_read_of_not_wrslot {i : Instr} {s t : State} {idx : Nat} (h : exec i s = .next t)
    (hi : ∀ v, i ≠ .wrslot idx v) : Memory.read t.buf idx = Memory.read s.buf idx := by
  obtain ⟨hbuf, -⟩ := exec_writes_caller_state h
  by_cases hb : t.buf = s.buf
  · rw [hb]
  · obtain ⟨k, v, rfl⟩ := hbuf hb
    have hk : idx ≠ k := fun he => hi v (by rw [he])
    cases h
    rw [State.memWrite_buf]
    split
    · exact Memory.read_write_of_ne s.buf v hk
    · rfl

/-! What an arm reads of the buffer. -/

/-- R52, R58: an arm reads entry 0 in START and the entry at `CURSOR` in DATA; over a buffer that has the same byte there it
does the same, and leaves that buffer. -/
theorem exec_armOf_with_buf {x : TxState} {s t : State} (b : Memory) (h : exec (armOf x) s = .next t)
    (hstart : x = .start → Memory.read b 0 = Memory.read s.buf 0)
    (hdata : x = .data → Memory.read b s.cursor = Memory.read s.buf s.cursor) :
    exec (armOf x) { s with buf := b } = .next { t with buf := b } := by
  cases x with
  | idle =>
    rcases Nat.lt_or_ge s.params.dataSettle (s.idleCount + 1) with hk | hk
    · rw [armOf, exec_txeIdle_of_lt hk] at h; cases h
      exact exec_txeIdle_of_lt hk
    · rw [armOf, exec_txeIdle_of_le hk] at h; cases h
      exact exec_txeIdle_of_le hk
  | brk => cases h; rfl
  | breakSent =>
    rcases Nat.lt_or_ge s.params.breakSettle (s.idleCount + 1) with hk | hk
    · rw [armOf, exec_txeBreakSent_of_lt hk] at h; cases h
      exact exec_txeBreakSent_of_lt hk
    · rw [armOf, exec_txeBreakSent_of_le hk] at h; cases h
      exact exec_txeBreakSent_of_le hk
  | start =>
    rw [armOf, exec_txeStart, ← hstart rfl] at h; cases h
    exact exec_txeStart _
  | data =>
    have hc := cursor_le_of_exec_txeData h
    rcases Nat.lt_or_ge s.slotsLatch (s.cursor + 1) with hl | hl
    · rw [armOf, exec_txeData_of_last hc hl, ← hdata rfl] at h; cases h
      exact exec_txeData_of_last hc hl
    · rw [armOf, exec_txeData_of_not_last hc hl, ← hdata rfl] at h; cases h
      exact exec_txeData_of_not_last hc hl

/-! Runs. -/

/-- R60: an input that is no reset and no WRSLOT to the index. -/
def Input.LeavesEntry (idx : Nat) (x : Input) : Prop :=
  x ≠ .rst ∧ ∀ (w : CommandWord) (v : Byte), x = .cmd w → decodeCommand w ≠ .ok (.wrslot idx v)

/-- R57: the reaction to such an input leaves the entry as it was. -/
theorem stepOn_read_of_leavesEntry {x : Input} {s t : State} {idx : Nat} (h : stepOn x s = .next t)
    (hx : x.LeavesEntry idx) : Memory.read t.buf idx = Memory.read s.buf idx := by
  obtain ⟨hrst, hcmd⟩ := hx
  rcases stepOn_cases x s with ⟨w, i, rfl, hw, hs⟩ | ⟨w, e, rfl, hw, hs⟩ | ⟨rfl, _, hs⟩ | ⟨rfl, _, hs⟩ | ⟨rfl, hs⟩ <;>
    rw [hs] at h
  · exact exec_read_of_not_wrslot (s := s.beginStep) h fun v hi => hcmd w v rfl (hi ▸ hw)
  · cases h; rfl
  · exact exec_read_of_not_wrslot (s := s.beginStep) h (armOf_ne_wrslot s.txState idx)
  · cases h
  · exact absurd rfl hrst

/-- The reaction to an input leaves the inputs to come as they were. -/
theorem stepOn_inputs {x : Input} {s t : State} (h : stepOn x s = .next t) : t.inputs = s.inputs := by
  rcases stepOn_cases x s with ⟨w, i, rfl, _, hs⟩ | ⟨w, e, rfl, _, hs⟩ | ⟨rfl, _, hs⟩ | ⟨rfl, _, hs⟩ | ⟨rfl, hs⟩ <;>
    rw [hs] at h
  · obtain ⟨-, hi, -⟩ := exec_keeps h; exact hi
  · cases h; rfl
  · obtain ⟨-, hi, -⟩ := exec_keeps h; exact hi
  · cases h
  · cases h; rfl

/-- R12: a step of a good state takes its next input and leads to a good state. -/
theorem Inv.step_takes_input {s t : State} (h : Inv s) (ht : step s = .next t) :
    ∃ x, s.inputs = x :: t.inputs ∧ stepOn x { s with inputs := t.inputs } = .next t ∧ Inv t := by
  cases hi : s.inputs with
  | nil => rw [step_of_no_input h.no_popFetch hi] at ht; cases ht
  | cons x rest =>
    have hinv := invariantsAreKeptByEveryStep s t h ht
    rw [step_of_input h.no_popFetch hi] at ht
    obtain rfl : t.inputs = rest := stepOn_inputs ht
    exact ⟨x, rfl, ht, hinv⟩

/-- R125, R131: events of a DATA phase, as many as are left of it at most, send the entries from `CURSOR` on. -/
theorem run_txe_in_data {m : Nat} {s : State} {rest : List Input} (h : Inv s) (hx : s.txState = .data)
    (ht : s.txie = true) (hm : m ≤ s.slotsLatch + 1 - s.cursor) (hi : s.inputs = scriptTxe m ++ rest) :
    ∃ t, Host.Core.run core m s = .next t ∧ t.inputs = rest ∧ t.cursor = s.cursor + m ∧
      t.popTrace = s.popTrace ++ (List.range m).map (fun j => .txwrite (Memory.read s.buf (s.cursor + j))) := by
  induction m generalizing s with
  | zero => exact ⟨s, rfl, hi, rfl, by simp⟩
  | succ m ih =>
    have hc := h.cursor_le_maxSlots hx
    have hstep := step_of_txe h.no_popFetch hi ht
    rw [(armOf_eq_txeData_iff _).mpr hx] at hstep
    rcases Nat.lt_or_ge s.slotsLatch (s.cursor + 1) with hl | hl
    · obtain rfl : m = 0 := by omega
      have hlast := hstep.trans (exec_txeData_of_last hc hl)
      exact ⟨_, run_of_step hlast, rfl, rfl, by simp⟩
    · have hnext := hstep.trans (exec_txeData_of_not_last hc hl)
      have hinv := invariantsAreKeptByEveryStep _ _ h hnext
      have hleft : m ≤ s.slotsLatch + 1 - (s.cursor + 1) := by omega
      obtain ⟨t, hrun, hin, hcur, htrace⟩ := ih hinv hx ht hleft rfl
      refine ⟨t, (run_of_step hnext).trans hrun, hin, hcur.trans (Nat.add_right_comm s.cursor 1 m), ?_⟩
      rw [htrace]
      simp [List.range_succ_eq_map, Function.comp_def, Nat.add_right_comm, Nat.add_assoc]

end Sys2Proof.Machine
end

section
/-! The obligations of spec/20_memory.md. -/

namespace Sys2Proof.Machine

open Sys2Proof

/-- Settles O10: the word from R77's fields, the effect from R103's two branches and the laws of the buffer. -/
theorem wrslotCommand : Obligations.WrslotCommand := by
  refine ⟨fun idx val h => ?word, fun s idx val hwf => ⟨fun hle => ?write, exec_wrslot_of_lt val⟩⟩
  case word => simp [encode, commandWord_eq_or, setWidth_index h]
  case write =>
    exact ⟨_, exec_wrslot_of_le val hle, Memory.wf_write idx val hwf, Memory.read_write_self idx val hwf,
      fun j => Memory.read_write_of_ne s.buf val⟩

/-- Settles O11: the word from R77's fields, the response from the two cases of a read. -/
theorem rdslotCommand : Obligations.RdslotCommand := by
  refine ⟨fun idx h => ?word, fun s idx => ⟨fun hle => ?named, fun hlt => ?unnamed⟩⟩
  case word => simp [encode, commandWord_eq_or, setWidth_index h]
  case named => rw [exec_rdslot, memRead_of_le s hle]; rfl
  case unnamed => rw [exec_rdslot, memRead_of_lt s hlt]; rfl

/-- Settles O42: TXE.DATA compares `SLOTS_LATCH` in both orders, and SETSLOTS writes `SLOTS_CFG` only. -/
theorem slotCountHasNoMidFrameEffect : Obligations.SlotCountHasNoMidFrameEffect := by
  intro s t count h
  refine ⟨_, exec_setslots count s, ?_⟩
  have hc := cursor_le_of_exec_txeData h
  rcases Nat.lt_or_ge s.slotsLatch (s.cursor + 1) with hl | hl
  · rw [exec_txeData_of_last hc hl] at h; cases h
    exact ⟨_, exec_txeData_of_last hc hl, rfl⟩
  · rw [exec_txeData_of_not_last hc hl] at h; cases h
    exact ⟨_, exec_txeData_of_not_last hc hl, rfl⟩

/-- Settles O27: the writers of each register are in `exec_writes_caller_state` and `exec_writes_working`; an arm is none of the
instructions that write what the caller owns, and a command none of those that write what the arms own. -/
theorem contextsWriteTheirOwnState : Obligations.ContextsWriteTheirOwnState := by
  refine ⟨fun x s t h => ?arm, fun w i s t hw h => ?command⟩
  case arm =>
    have hwrites := exec_writes_caller_state h
    cases x <;> simpa [armOf] using hwrites
  case command =>
    obtain ⟨hbuf, hcfg, hactive, htxie, hresp, hline⟩ := exec_writes_caller_state h
    obtain ⟨hstate, hcursor, hcount, hlatch⟩ := exec_writes_working h
    obtain ⟨⟨hi, hb, hbs, hst, hd⟩, hon, hoff, hcl⟩ := decodeCommand_ne_arm_or_pop hw
    simp only [hi, hb, hbs, hst, hd, hon, hoff, hcl, false_and, exists_false, false_or, or_false, imp_false, not_not,
      ne_eq] at hstate hcursor hcount hlatch htxie hline
    refine ⟨hcursor, hlatch, ?_, ?_, hcfg, hbuf, hresp⟩
    · rintro (h | h | h | h)
      exacts [hstate h, hcount h, hline (.inl h), hline (.inr h)]
    · rintro (h | h)
      exacts [hactive h, htxie h]

/-- Settles O39, by induction on the steps: each takes an input that leaves the entry as it was. -/
theorem bufferKeepsTheLastWrite : Obligations.BufferKeepsTheLastWrite := by
  intro k s t idx h hrun hx
  induction k generalizing s with
  | zero => cases hrun; rfl
  | succ k ih =>
    obtain ⟨u, hu, hrun⟩ := run_succ_cases hrun
    obtain ⟨x, hi, hon, hinv⟩ := h.step_takes_input hu
    rw [hi, List.take_succ_cons, List.forall_mem_cons] at hx
    obtain ⟨hfirst, hlater⟩ := hx
    calc Memory.read t.buf idx
      _ = Memory.read u.buf idx := ih u hinv hrun hlater
      _ = Memory.read s.buf idx := stepOn_read_of_leavesEntry (s := { s with inputs := u.inputs }) hon hfirst

/-- Settles O40: the WRSLOT leads to a good state in the same place of its phase, from where the events send the written
buffer, read back by `Memory.read_write`. -/
theorem writeDuringDataPhase : Obligations.WriteDuringDataPhase := by
  intro s k v m rest h hx ht hk hm hi
  have hindex : k < 1024 := by have := h.params.max_le_ceiling; omega
  have hstep := (step_of_command h.no_popFetch hi (decodeCommand_wrslot_word v hindex)).trans
    (exec_wrslot_of_le v hk)
  have hinv := invariantsAreKeptByEveryStep _ _ h hstep
  obtain ⟨t, hrun, hin, hcursor, htrace⟩ := run_txe_in_data hinv hx ht hm rfl
  refine ⟨t, (run_of_step hstep).trans hrun, hin, hcursor, ?_⟩
  simpa only [Memory.read_write k _ v h.buf_wf] using htrace

/-- Settles O41: the arm of START reads entry 0 and the arm of DATA the entry at `CURSOR`, and neither is above
`SLOTS_LATCH`. -/
theorem unsentEntriesAreNotObserved : Obligations.UnsentEntriesAreNotObserved := by
  intro s t b rest h hi hb hs
  have hp := h.no_popFetch
  rcases Bool.eq_false_or_eq_true s.txie with ht | ht
  · rw [step_of_txe hp hi ht] at hs
    rw [step_of_txe (s := { s with buf := b }) hp hi ht]
    exact exec_armOf_with_buf b hs (fun _ => hb 0 (Nat.zero_le _)) (fun hx => hb s.cursor (h.cursor_le hx))
  · have hmasked := (step_of_input hp hi).trans (stepOn_of_not_enabled ht)
    cases hmasked.symm.trans hs

end Sys2Proof.Machine
end

section
/-! The opcode table as a whole (spec/30_encoding.md R72 to R82): its rows are disjoint, so a word that fits a row decodes to
that row's operation; the word that fits a row is the encoding of what it decodes to; and what the operations that run in
the block emit (R147, R148). -/

namespace Sys2Proof.Machine

open Sys2Proof

/-! Disjoint rows. -/

/-- R72: a word that fits two rows of a table fits one and the same row. -/
def RowsDisjoint {n : Nat} (rows : List (Row n)) : Prop :=
  ∀ (w : BitVec n) (j k : Nat) (a b : Row n), rows[j]? = some a → rows[k]? = some b →
    rowFits w a = true → rowFits w b = true → j = k

theorem rowFits_iff {n : Nat} (w : BitVec n) (r : Row n) : rowFits w r = true ↔ w &&& r.mask = r.value := beq_iff_eq

/-- The `match` values of two rows that one word fits agree on the bits that both masks check. -/
theorem values_agree_of_rowFits {n : Nat} {w : BitVec n} {a b : Row n} (ha : rowFits w a = true)
    (hb : rowFits w b = true) : a.value &&& b.mask = b.value &&& a.mask := by
  rw [← (rowFits_iff w a).mp ha, ← (rowFits_iff w b).mp hb, BitVec.and_assoc, BitVec.and_assoc,
    BitVec.and_comm a.mask]

/-- Rows are disjoint when any two of them differ in a bit that both masks check. -/
theorem rowsDisjoint_of_values {n : Nat} {rows : List (Row n)}
    (h : ∀ j k : Fin rows.length, rows[j].value &&& rows[k].mask = rows[k].value &&& rows[j].mask → j = k) :
    RowsDisjoint rows := by
  intro w j k a b hj hk ha hb
  obtain ⟨hjlt, rfl⟩ := List.getElem?_eq_some_iff.mp hj
  obtain ⟨hklt, rfl⟩ := List.getElem?_eq_some_iff.mp hk
  exact congrArg Fin.val (h ⟨j, hjlt⟩ ⟨k, hklt⟩ (values_agree_of_rowFits ha hb))

theorem commandRows_disjoint : RowsDisjoint commandRows := rowsDisjoint_of_values (by decide)

theorem stateRows_disjoint : RowsDisjoint stateRows := rowsDisjoint_of_values (by decide)

theorem popRows_disjoint : RowsDisjoint popRows := rowsDisjoint_of_values (by decide)

/-- R72: in a table of disjoint rows a word decodes to the operation of any row that it fits. -/
theorem decodeWith_of_rowFits {n : Nat} {rows : List (Row n)} (hd : RowsDisjoint rows) {w : BitVec n} {k : Nat} {r : Row n}
    (hk : rows[k]? = some r) (hf : rowFits w r = true) : decodeWith rows w = some (r.build w) := by
  cases hfind : decodeWith rows w with
  | none =>
    have hno := decodeWith_none hfind r (List.mem_of_getElem? hk)
    exact absurd (hf.symm.trans hno) (by decide)
  | some i =>
    obtain ⟨q, hq, hfq, rfl⟩ := decodeWith_some hfind
    obtain ⟨j, hj⟩ := List.mem_iff_getElem?.mp hq
    obtain rfl := hd w j k q r hj hk hfq hf
    rw [Option.some.inj (hj.symm.trans hk)]

theorem decodeCommand_of_rowFits {w : CommandWord} {k : Nat} {r : Row 32} (hk : commandRows[k]? = some r)
    (hf : rowFits w r = true) : decodeCommand w = .ok (r.build w) :=
  (decodeCommand_ok_iff w _).mpr (decodeWith_of_rowFits commandRows_disjoint hk hf)

theorem decodePop_of_rowFits {p : PopWord} {k : Nat} {r : Row 16} (hk : popRows[k]? = some r)
    (hf : rowFits p r = true) : decodePop p = .ok (r.build p) :=
  (decodePop_ok_iff p _).mpr (decodeWith_of_rowFits popRows_disjoint hk hf)

/-- R72, R83: the words of commands are those that fit a row. -/
theorem exists_decodeCommand_iff (w : CommandWord) :
    (∃ i, decodeCommand w = .ok i) ↔ ∃ r ∈ commandRows, rowFits w r = true := by
  constructor
  · rintro ⟨i, hi⟩
    obtain ⟨r, hr, hf, -⟩ := decodeWith_some ((decodeCommand_ok_iff w i).mp hi)
    exact ⟨r, hr, hf⟩
  · rintro ⟨r, hr, hf⟩
    obtain ⟨k, hk⟩ := List.mem_iff_getElem?.mp hr
    exact ⟨_, decodeCommand_of_rowFits hk hf⟩

/-- R73, R74: the five rows of format C as conditions on the fields. -/
theorem exists_rowFits_commandRows_iff (w : CommandWord) :
    (∃ r ∈ commandRows, rowFits w r = true) ↔
      (w.extractLsb' 28 4 = 1#4 ∧ w.extractLsb' 26 2 = 0#2 ∧ w.extractLsb' 16 10 = 0#10 ∧ w.extractLsb' 8 8 = 0#8 ∧
        w.extractLsb' 0 8 = 0#8) ∨
      (w.extractLsb' 28 4 = 2#4 ∧ w.extractLsb' 26 2 = 0#2 ∧ w.extractLsb' 16 10 = 0#10 ∧ w.extractLsb' 8 8 = 0#8 ∧
        w.extractLsb' 0 8 = 0#8) ∨
      (w.extractLsb' 28 4 = 3#4 ∧ w.extractLsb' 26 2 = 0#2 ∧ w.extractLsb' 8 8 = 0#8 ∧ w.extractLsb' 0 8 = 0#8) ∨
      (w.extractLsb' 28 4 = 4#4 ∧ w.extractLsb' 26 2 = 0#2 ∧ w.extractLsb' 8 8 = 0#8) ∨
      (w.extractLsb' 28 4 = 5#4 ∧ w.extractLsb' 26 2 = 0#2 ∧ w.extractLsb' 8 8 = 0#8 ∧ w.extractLsb' 0 8 = 0#8) := by
  simp only [commandRows, List.exists_mem_cons_iff, List.not_mem_nil, false_and, exists_false, or_false,
    rowFits_start, rowFits_stop, rowFits_setslots, rowFits_wrslot, rowFits_rdslot]

/-! The words of the operations with operands decode to them (WRSLOT's is `decodeCommand_wrslot_word`). -/

theorem decodeCommand_setslots_word {count : Nat} (h : count < 1024) :
    decodeCommand (commandWord 3 (BitVec.ofNat 10 count) 0) = .ok (.setslots count) := by
  obtain ⟨hopc, hz, -, hz', hval⟩ := commandWord_fields 3 (BitVec.ofNat 10 count) 0
  rw [decodeCommand_of_rowFits (k := 2) rfl ((rowFits_setslots _ _).mpr ⟨hopc, hz, hz', hval⟩)]
  simp [fieldIdx_commandWord, Nat.mod_eq_of_lt h]

theorem decodeCommand_rdslot_word {idx : Nat} (h : idx < 1024) :
    decodeCommand (commandWord 5 (BitVec.ofNat 10 idx) 0) = .ok (.rdslot idx) := by
  obtain ⟨hopc, hz, -, hz', hval⟩ := commandWord_fields 5 (BitVec.ofNat 10 idx) 0
  rw [decodeCommand_of_rowFits (k := 4) rfl ((rowFits_rdslot _ _).mpr ⟨hopc, hz, hz', hval⟩)]
  simp [fieldIdx_commandWord, Nat.mod_eq_of_lt h]

/-- R79: a peripheral word is `PCODE`, the five bits that must be 0, and `PARG`. -/
theorem pop_fields_parg (p : PopWord) : p = p.extractLsb' 13 3 ++ p.extractLsb' 8 5 ++ p.extractLsb' 0 8 := by
  apply BitVec.eq_of_getLsbD_eq
  intro k hk
  simp only [BitVec.getLsbD_append, BitVec.getLsbD_extractLsb']
  interval_cases k <;> simp

/-- R79: the three fields of a built word. -/
theorem popWord_fields (pcode : BitVec 3) (parg : BitVec 8) :
    (popWord pcode parg).extractLsb' 13 3 = pcode ∧ (popWord pcode parg).extractLsb' 8 5 = 0#5 ∧
    (popWord pcode parg).extractLsb' 0 8 = parg := by
  have h : _ = pcode ++ 0#5 ++ parg := (pop_fields_parg (popWord pcode parg)).symm
  simpa only [append_eq_append_iff_fields, and_assoc] using h

/-- R81: all four operand pairs of CFGLINE. -/
theorem decodePop_cfgline_word (b : Baud) (f : Fmt) : decodePop (Pop.word (.cfgline b f)) = .ok (.cfgline b f) := by
  cases b <;> cases f <;> decide

/-- R82: every byte of TXWRITE. -/
theorem decodePop_txwrite_word (v : Byte) : decodePop (Pop.word (.txwrite v)) = .ok (.txwrite v) := by
  obtain ⟨hcode, hz, hparg⟩ := popWord_fields 5 v
  rw [Pop.word, decodePop_of_rowFits (k := 4) rfl ((rowFits_txwrite _ _).mpr ⟨hcode, hz⟩)]
  exact congrArg (fun x => Except.ok (Instr.txwrite x)) hparg

/-! A word that fits a row is the encoding of the row's operation. -/

theorem commandWord_of_fields {w : CommandWord} {opc : BitVec 4} {idx : BitVec 10} {val : Byte}
    (hopc : w.extractLsb' 28 4 = opc) (hz : w.extractLsb' 26 2 = 0#2) (hidx : w.extractLsb' 16 10 = idx)
    (hz' : w.extractLsb' 8 8 = 0#8) (hval : w.extractLsb' 0 8 = val) : commandWord opc idx val = w := by
  rw [command_fields w, hopc, hz, hidx, hz', hval, commandWord]

theorem popWord_of_fields {p : PopWord} {pcode : BitVec 3} {parg : BitVec 8} (hcode : p.extractLsb' 13 3 = pcode)
    (hz : p.extractLsb' 8 5 = 0#5) (hparg : p.extractLsb' 0 8 = parg) : popWord pcode parg = p := by
  rw [pop_fields_parg p, hcode, hz, hparg, popWord]

/-- R75: `IDX` as a number and back. -/
theorem ofNat_fieldIdx (w : CommandWord) : BitVec.ofNat 10 (fieldIdx w) = w.extractLsb' 16 10 :=
  (BitVec.ofNat_toNat ..).trans (BitVec.setWidth_eq _)

/-- R75: `IDX` is an unsigned 10-bit number. -/
theorem fieldIdx_lt (w : CommandWord) : fieldIdx w < 1024 := BitVec.isLt _

/-- R81: `PARG` where CFGLINE cuts it. -/
theorem parg_fields (p : PopWord) :
    p.extractLsb' 0 8 = p.extractLsb' 2 6 ++ p.extractLsb' 1 1 ++ p.extractLsb' 0 1 := by
  apply BitVec.eq_of_getLsbD_eq
  intro k hk
  simp only [BitVec.getLsbD_append, BitVec.getLsbD_extractLsb']
  interval_cases k <;> simp

theorem baud_bit_ofBit (x : BitVec 1) : (Baud.ofBit x).bit = x := by
  revert x; decide

theorem fmt_bit_ofBit (x : BitVec 1) : (Fmt.ofBit x).bit = x := by
  revert x; decide

/-- R73, R74: the masks of format C check every bit that is no operand's. -/
theorem encode_of_decodeCommand {w : CommandWord} {i : Instr} (h : decodeCommand w = .ok i) :
    i.WellFormed ∧ encode i = .command w := by
  obtain ⟨r, hr, hf, rfl⟩ := decodeWith_some ((decodeCommand_ok_iff w i).mp h)
  simp only [commandRows, List.mem_cons, List.not_mem_nil, or_false] at hr
  rcases hr with rfl | rfl | rfl | rfl | rfl
  · obtain ⟨hopc, hz, hidx, hz', hval⟩ := (rowFits_start ..).mp hf
    exact ⟨rfl, congrArg Code.command (commandWord_of_fields hopc hz hidx hz' hval)⟩
  · obtain ⟨hopc, hz, hidx, hz', hval⟩ := (rowFits_stop ..).mp hf
    exact ⟨rfl, congrArg Code.command (commandWord_of_fields hopc hz hidx hz' hval)⟩
  · obtain ⟨hopc, hz, hz', hval⟩ := (rowFits_setslots ..).mp hf
    exact ⟨decide_eq_true (fieldIdx_lt w),
      congrArg Code.command (commandWord_of_fields hopc hz (ofNat_fieldIdx w).symm hz' hval)⟩
  · obtain ⟨hopc, hz, hz'⟩ := (rowFits_wrslot ..).mp hf
    exact ⟨decide_eq_true (fieldIdx_lt w),
      congrArg Code.command (commandWord_of_fields hopc hz (ofNat_fieldIdx w).symm hz' rfl)⟩
  · obtain ⟨hopc, hz, hz', hval⟩ := (rowFits_rdslot ..).mp hf
    exact ⟨decide_eq_true (fieldIdx_lt w),
      congrArg Code.command (commandWord_of_fields hopc hz (ofNat_fieldIdx w).symm hz' hval)⟩

/-- R78: the mask of format S checks all three bits of the code. -/
theorem encode_of_decodeState {c : StateCode} {i : Instr} (h : decodeState c = .ok i) :
    i.WellFormed ∧ encode i = .state c := by
  obtain ⟨r, hr, hf, rfl⟩ := decodeWith_some ((decodeState_ok_iff c i).mp h)
  rw [rowFits_iff] at hf
  simp only [stateRows, List.mem_cons, List.not_mem_nil, or_false] at hr
  rcases hr with rfl | rfl | rfl | rfl | rfl <;>
    exact ⟨rfl, congrArg Code.state (hf.symm.trans (and_of_ones rfl c))⟩

/-- R80, R85: the masks of format P check every bit that is no operand's. -/
theorem encode_of_decodePop {p : PopWord} {i : Instr} (h : decodePop p = .ok i) : i.WellFormed ∧ encode i = .pop p := by
  obtain ⟨r, hr, hf, rfl⟩ := decodeWith_some ((decodePop_ok_iff p i).mp h)
  simp only [popRows, List.mem_cons, List.not_mem_nil, or_false] at hr
  rcases hr with rfl | rfl | rfl | rfl | rfl
  · obtain ⟨hcode, hz, hz'⟩ := (rowFits_cfgline ..).mp hf
    have hparg := parg_fields p
    rw [hz', ← baud_bit_ofBit (p.extractLsb' 0 1), ← fmt_bit_ofBit (p.extractLsb' 1 1)] at hparg
    exact ⟨rfl, congrArg Code.pop (popWord_of_fields hcode hz hparg)⟩
  · rw [(rowFits_flush ..).mp hf]; decide
  · rw [(rowFits_txieOn ..).mp hf]; decide
  · rw [(rowFits_txieOff ..).mp hf]; decide
  · obtain ⟨hcode, hz⟩ := (rowFits_txwrite ..).mp hf
    exact ⟨rfl, congrArg Code.pop (popWord_of_fields hcode hz rfl)⟩

/-! What is emitted. -/

/-- R85: no arm is a CFGLINE run on its own. -/
theorem armOf_ne_cfgline (x : TxState) (b : Baud) (f : Fmt) : armOf x ≠ .cfgline b f := by
  cases x <;> simp [armOf]

/-- R148: only a CFGLINE run on its own can emit a line configuration other than the two. -/
theorem emittable_of_mem_emissionList {i : Instr} {s : State} (hi : ∀ b f, i ≠ .cfgline b f) :
    ∀ p ∈ emissionList i s, emittable p = true := by
  cases i with
  | cfgline b f => exact absurd rfl (hi b f)
  | start => cases hs : s.active <;> simp [emissionList, emittable, hs]
  | _ => simp [emissionList, emittable]

/-- R148: the same of what the instruction leaves on the POP port of a step. -/
theorem emittable_of_exec_beginStep {i : Instr} {s t : State} (hi : ∀ b f, i ≠ .cfgline b f)
    (h : exec i s.beginStep = .next t) : ∀ p ∈ t.popPort, emittable p = true := by
  obtain ⟨hport, -⟩ := exec_emits h
  rw [hport, State.beginStep_popPort, List.nil_append]
  exact emittable_of_mem_emissionList hi

/-- R85, R148: a step on an input runs a command's operation or an arm, neither of which is a CFGLINE on its own; a reserved
word and a reset emit nothing. -/
theorem emittable_of_stepOn {x : Input} {s t : State} (h : stepOn x s = .next t) :
    ∀ p ∈ t.popPort, emittable p = true := by
  rcases stepOn_cases x s with ⟨w, i, -, hw, hs⟩ | ⟨w, e, -, -, hs⟩ | ⟨-, -, hs⟩ | ⟨-, -, hs⟩ | ⟨-, hs⟩ <;> rw [hs] at h
  · obtain ⟨-, -, -, hcfgline⟩ := decodeCommand_ne_arm_or_pop hw
    exact emittable_of_exec_beginStep hcfgline h
  · cases h; simp
  · exact emittable_of_exec_beginStep (armOf_ne_cfgline s.txState) h
  · cases h
  · cases h; simp

end Sys2Proof.Machine
end

section
/-! The obligations of spec/30_encoding.md. -/

namespace Sys2Proof.Machine

open Sys2Proof

/-- Settles O28, by the operation: its word fits the row that builds it, and in disjoint rows no other row can take the word;
an operation without operands has the one word. -/
theorem decodeOfEncode : Obligations.DecodeOfEncode := by
  intro i hi
  cases i with
  | setslots count => exact decodeCommand_setslots_word (of_decide_eq_true hi)
  | wrslot idx val => exact decodeCommand_wrslot_word val (of_decide_eq_true hi)
  | rdslot idx => exact decodeCommand_rdslot_word (of_decide_eq_true hi)
  | txeBreak => exact decodeState_code .brk
  | txeStart => exact decodeState_code .start
  | txeData => exact decodeState_code .data
  | txeIdle => exact decodeState_code .idle
  | txeBreakSent => exact decodeState_code .breakSent
  | cfgline b f => exact decodePop_cfgline_word b f
  | txwrite v => exact decodePop_txwrite_word v
  | start | stop | flush | txieOn | txieOff => decide

/-- Settles O22: a step without a placed word is the reaction to an input, and no reaction emits another CFGLINE. -/
theorem onlyTwoLineConfigurationsAreEmitted : Obligations.OnlyTwoLineConfigurationsAreEmitted := by
  intro s t hp h
  cases hin : s.inputs with
  | nil => cases (step_of_no_input hp hin).symm.trans h
  | cons x rest => exact emittable_of_stepOn ((step_of_input hp hin).symm.trans h)

/-- Settles O29, format by format: the masks check all the bits that the operands do not take up. -/
theorem encodeOfDecode : Obligations.EncodeOfDecode := by
  intro c i h
  cases c with
  | command w => exact encode_of_decodeCommand h
  | state c => exact encode_of_decodeState h
  | pop p => exact encode_of_decodePop h

/-- Settles O30: any two rows of a format differ in a bit that both masks check. -/
theorem tableRowsAreDisjoint : Obligations.TableRowsAreDisjoint :=
  ⟨commandRows_disjoint, stateRows_disjoint, popRows_disjoint⟩

/-- Settles O31: a word is a command's when it fits one of the five rows, and each row is a condition on the fields. -/
theorem mustBeZeroFieldsAreChecked : Obligations.MustBeZeroFieldsAreChecked := by
  intro w
  simp only [exists_decodeCommand_iff, exists_rowFits_commandRows_iff, BitVec.ofNat_eq_ofNat]
  constructor
  · rintro (⟨hopc, hz, hidx, hz', hval⟩ | ⟨hopc, hz, hidx, hz', hval⟩ | ⟨hopc, hz, hz', hval⟩ |
      ⟨hopc, hz, hz'⟩ | ⟨hopc, hz, hz', hval⟩)
    · exact ⟨hz, hz', .inl ⟨.inl hopc, hidx, hval⟩⟩
    · exact ⟨hz, hz', .inl ⟨.inr hopc, hidx, hval⟩⟩
    · exact ⟨hz, hz', .inr (.inl ⟨hopc, hval⟩)⟩
    · exact ⟨hz, hz', .inr (.inr (.inl hopc))⟩
    · exact ⟨hz, hz', .inr (.inr (.inr ⟨hopc, hval⟩))⟩
  · rintro ⟨hz, hz', ⟨hopc | hopc, hidx, hval⟩ | ⟨hopc, hval⟩ | hopc | ⟨hopc, hval⟩⟩
    · exact .inl ⟨hopc, hz, hidx, hz', hval⟩
    · exact .inr (.inl ⟨hopc, hz, hidx, hz', hval⟩)
    · exact .inr (.inr (.inl ⟨hopc, hz, hz', hval⟩))
    · exact .inr (.inr (.inr (.inl ⟨hopc, hz, hz'⟩)))
    · exact .inr (.inr (.inr (.inr ⟨hopc, hz, hz', hval⟩)))

/-- Settles O32: each sample word run through the decoder. -/
theorem sampleWordsDecode : Obligations.SampleWordsDecode := by
  refine ⟨?_, ?_, ?_, ?_, ?_, ?_, ?_, ?_, ?_, ?_, ?_⟩ <;> decide

end Sys2Proof.Machine
end

section
/-! The steps of the words of START and STOP, and when a step and a cycle of the pins have a response
(spec/40_host_commands.md R100, R101, R104, R106). -/

namespace Sys2Proof.Machine

open Sys2Proof

/-- R73: the word of START. -/
theorem decodeCommand_start_word : decodeCommand 0x10000000#32 = .ok .start := by decide

/-- R73: the word of STOP. -/
theorem decodeCommand_stop_word : decodeCommand 0x20000000#32 = .ok .stop := by decide

/-- R100: the registers START writes while inactive, and the three operations it emits in D15's order. -/
theorem exec_start_of_inactive_fields {s : State} (h : s.active = false) :
    exec .start s = .next { s with
      lineBaud := .data, lineFmt := .data, txState := .idle, idleCount := 0, txie := true, active := true,
      popPort := s.popPort ++ [.flush, .cfgline .data .data, .txieOn],
      popTrace := s.popTrace ++ [.flush, .cfgline .data .data, .txieOn] } := by
  simp [exec_start_of_inactive h]

/-- R100: the step of START's word while inactive, whose operations are the only ones on the POP port. -/
theorem step_start_of_inactive {s : State} {rest : List Input} (ha : s.active = false) (hp : s.popFetch = none)
    (hi : s.inputs = .cmd 0x10000000#32 :: rest) :
    step s = .next { s with
      lineBaud := .data, lineFmt := .data, txState := .idle, idleCount := 0, txie := true, active := true,
      inputs := rest, popPort := [.flush, .cfgline .data .data, .txieOn], rspPort := none,
      popTrace := s.popTrace ++ [.flush, .cfgline .data .data, .txieOn] } :=
  (step_of_command hp hi decodeCommand_start_word).trans (exec_start_of_inactive_fields ha)

/-- R101: the step of STOP's word, in every state. -/
theorem step_stop {s : State} {rest : List Input} (hp : s.popFetch = none)
    (hi : s.inputs = .cmd 0x20000000#32 :: rest) :
    step s = .next { s with
      txie := false, active := false, inputs := rest, popPort := [.txieOff], rspPort := none,
      popTrace := s.popTrace ++ [.txieOff] } :=
  (step_of_command hp hi decodeCommand_stop_word).trans (exec_stop _)

/-- R104: the response an RDSLOT puts on the response port. -/
theorem rspPort_of_exec_rdslot {idx : Nat} {s t : State} (h : exec (.rdslot idx) s = .next t) :
    t.rspPort = some ((s.memRead idx).getD 0x00) := by
  cases h; rfl

/-- R104: RDSLOT is the only instruction that responds. -/
theorem exec_keeps_rspPort {i : Instr} {s t : State} (h : exec i s = .next t) (hi : ∀ idx, i ≠ .rdslot idx) :
    t.rspPort = s.rspPort := by
  cases i with
  | rdslot idx => exact absurd rfl (hi idx)
  | start =>
    cases ha : s.active with
    | true => rw [exec_start_of_active ha] at h; cases h; rfl
    | false => rw [exec_start_of_inactive ha] at h; cases h; rfl
  | txeStart => rw [exec_txeStart] at h; cases h; rfl
  | txeData =>
    rw [exec_txeData_of_le (cursor_le_of_exec_txeData h)] at h
    cases h
    simp [apply_ite State.rspPort]
  | txeIdle | txeBreakSent => cases h; simp [apply_ite State.rspPort]
  | _ => cases h; simp

/-- R104: no arm is an RDSLOT. -/
theorem armOf_ne_rdslot (x : TxState) (idx : Nat) : armOf x ≠ .rdslot idx := by
  cases x <;> simp [armOf]

/-- R12, R104: a step responds exactly when its input is the word of an RDSLOT. -/
theorem stepOn_responds_iff {x : Input} {s t : State} (h : stepOn x s = .next t) :
    t.rspPort ≠ none ↔ ∃ w idx, x = .cmd w ∧ decodeCommand w = .ok (.rdslot idx) := by
  rcases stepOn_cases x s with ⟨w, i, rfl, hw, hs⟩ | ⟨w, e, rfl, hw, hs⟩ | ⟨rfl, ht, hs⟩ | ⟨rfl, ht, hs⟩ | ⟨rfl, hs⟩
  · have hexec := hs.symm.trans h
    by_cases hi : ∃ idx, i = .rdslot idx
    · obtain ⟨idx, rfl⟩ := hi
      simp [rspPort_of_exec_rdslot hexec, hw]
    · have hne : ∀ idx, i ≠ .rdslot idx := not_exists.mp hi
      simp [exec_keeps_rspPort hexec hne, hw, hne]
  · cases hs.symm.trans h
    simp [hw]
  · simp [exec_keeps_rspPort (hs.symm.trans h) (armOf_ne_rdslot s.txState)]
  · cases hs.symm.trans h
  · cases hs.symm.trans h
    simp

/-- R104: the response of a step on the word of an RDSLOT whose index names an entry. -/
theorem rspPort_of_stepOn_rdslot {w : CommandWord} {idx : Nat} {s t : State} (h : stepOn (.cmd w) s = .next t)
    (hw : decodeCommand w = .ok (.rdslot idx)) (hle : idx ≤ s.params.maxSlots) :
    t.rspPort = some (Memory.read s.buf idx) := by
  have hexec : exec (.rdslot idx) s.beginStep = .next t := by simpa [stepOn, acceptInput, hw, perform] using h
  rw [rspPort_of_exec_rdslot hexec, memRead_of_le s.beginStep hle]
  rfl

/-- R106: the only command a cycle can take is the one on the command port. -/
theorem eq_cmdWord_of_portInput {s : State} {p : PortIn} {w : CommandWord} (h : portInput s p = some (.cmd w)) :
    w = p.cmdWord := by
  unfold portInput at h
  split_ifs at h <;> cases h
  rfl

/-- R106: a response is due after a cycle exactly when the cycle took an RDSLOT. -/
theorem portCycle_responds_iff {s t : State} {p : PortIn} {o : PortOut} (h : portCycle s p = .next (o, t)) :
    t.rspPort ≠ none ↔
      ∃ idx, portInput s p = some (.cmd p.cmdWord) ∧ decodeCommand p.cmdWord = .ok (.rdslot idx) := by
  cases hx : portInput s p with
  | none =>
    rw [portCycle_of_no_input hx] at h
    cases h
    simp
  | some x =>
    obtain ⟨u, hu, -, rfl⟩ := portCycle_of_input hx h
    refine (stepOn_responds_iff hu).trans ⟨?_, ?_⟩
    · rintro ⟨w, idx, rfl, hw⟩
      obtain rfl := eq_cmdWord_of_portInput hx
      exact ⟨idx, rfl, hw⟩
    · rintro ⟨idx, hcmd, hw⟩
      exact ⟨p.cmdWord, idx, Option.some.inj hcmd, hw⟩

end Sys2Proof.Machine
end

section
/-! The obligations of spec/40_host_commands.md. -/

namespace Sys2Proof.Machine

open Sys2Proof

/-- Settles O49: what the second cycle shows is what the first left on the response port, whatever the second takes. -/
theorem responseInTheNextCycle : Obligations.ResponseInTheNextCycle := by
  intro s p q o o' t u _ hq h h'
  obtain ⟨u', rfl⟩ := exists_portOut h'
  refine ⟨(portOut_rspValid_iff t u' hq).trans (portCycle_responds_iff h), fun idx hx hw hle => ?_⟩
  obtain ⟨v, hstep, -, rfl⟩ := portCycle_of_input hx h
  have hrsp : v.rspPort = some (Memory.read s.buf idx) := rspPort_of_stepOn_rdslot hstep hw hle
  exact portOut_rspData hq hrsp

/-- Settles O7, one clause per value of `ACTIVE`. -/
theorem startCommand : Obligations.StartCommand :=
  ⟨by decide, fun _ => ⟨exec_start_of_inactive_fields, exec_start_of_active⟩⟩

/-- Settles O8: STOP has one branch. -/
theorem stopCommand : Obligations.StopCommand :=
  ⟨by decide, exec_stop⟩

/-- Settles O9: the word from R77's fields; the effect is the clamp. -/
theorem setslotsCommand : Obligations.SetslotsCommand := by
  refine ⟨fun count h => ?_, fun s count => exec_setslots count s⟩
  simp [encode, commandWord_eq_or, setWidth_index h]

/-- Settles O12: the step is START's, and START while active leaves the state as the step found it. -/
theorem startIsIdempotent : Obligations.StartIsIdempotent := by
  intro s rest ha hp hi
  exact (step_of_command hp hi decodeCommand_start_word).trans (exec_start_of_active ha)

/-- Settles O13: STOP leaves `ACTIVE = 0`, from where START takes its branch of R100. -/
theorem stopThenStartReinitialises : Obligations.StopThenStartReinitialises := by
  intro s rest hp hi
  calc Host.Core.run core 2 s
    _ = Host.Core.run core 1 _ := run_of_step (step_stop hp hi)
    _ = Host.Core.run core 0 _ := run_of_step (step_start_of_inactive rfl (by exact hp) rfl)
    _ = _ := by simp [Host.Core.run]

end Sys2Proof.Machine
end

section
/-! The arms as one update of the state each (spec/41_txe_state_machine.md section 2), how an event and a command move `STATE`
along the frame cycle (R128), and how many more events leave `STATE` where it is. -/

namespace Sys2Proof.Machine

open Sys2Proof

/-! The arms. -/

/-- R121, R123: in the state `x` the arm counts the event, and goes to `y` when the count exceeds the threshold. -/
def WaitsFor (x y : TxState) (settle : Params → Nat) : Prop :=
  ∀ s : State, exec (armOf x) s = .next { s with
    idleCount := s.idleCount + 1,
    txState := if settle s.params < s.idleCount + 1 then y else s.txState }

/-- R121. -/
theorem idle_waitsFor_brk : WaitsFor .idle .brk Params.dataSettle := by
  intro s
  rcases Nat.lt_or_ge s.params.dataSettle (s.idleCount + 1) with hk | hk
  · rw [if_pos hk]; exact exec_txeIdle_of_lt hk
  · rw [if_neg (Nat.not_lt.mpr hk)]; exact exec_txeIdle_of_le hk

/-- R123. -/
theorem breakSent_waitsFor_start : WaitsFor .breakSent .start Params.breakSettle := by
  intro s
  rcases Nat.lt_or_ge s.params.breakSettle (s.idleCount + 1) with hk | hk
  · rw [if_pos hk]; exact exec_txeBreakSent_of_lt hk
  · rw [if_neg (Nat.not_lt.mpr hk)]; exact exec_txeBreakSent_of_le hk

/-- R122: the registers TXE.BREAK writes, and the two operations it emits. -/
theorem exec_txeBreak_fields (s : State) :
    exec .txeBreak s = .next { s with
      lineBaud := .brk, lineFmt := .brk, idleCount := 0, txState := .breakSent,
      popPort := s.popPort ++ [.cfgline .brk .brk, .txwrite 0x00],
      popTrace := s.popTrace ++ [.cfgline .brk .brk, .txwrite 0x00] } := by
  simp [exec_txeBreak, State.moveTo]

/-- R124: the registers TXE.START writes, and the two operations it emits. -/
theorem exec_txeStart_fields (s : State) :
    exec .txeStart s = .next { s with
      lineBaud := .data, lineFmt := .data, slotsLatch := s.slotsCfg, cursor := 1, txState := .data,
      popPort := s.popPort ++ [.cfgline .data .data, .txwrite (Memory.read s.buf 0)],
      popTrace := s.popTrace ++ [.cfgline .data .data, .txwrite (Memory.read s.buf 0)] } := by
  simp [exec_txeStart, State.moveTo]

/-- R121, R123: an event in a waiting state moves on, or only counts. -/
theorem WaitsFor.moves_or_counts {x y : TxState} {settle : Params → Nat} (hw : WaitsFor x y settle) {s t : State}
    (h : exec (armOf x) s = .next t) :
    t.txState = y ∨ (t.txState = s.txState ∧ t.params = s.params ∧ t.idleCount = s.idleCount + 1 ∧
      s.idleCount + 1 ≤ settle s.params) := by
  rw [hw s] at h; cases h
  rcases Nat.lt_or_ge (settle s.params) (s.idleCount + 1) with hk | hk
  · exact .inl (if_pos hk)
  · exact .inr ⟨if_neg (Nat.not_lt.mpr hk), rfl, rfl, hk⟩

/-! The frame cycle. -/

/-- How many more events leave `STATE` where it is. -/
def waitingEvents (s : State) : Nat :=
  match s.txState with
  | .idle => s.params.dataSettle - s.idleCount
  | .brk => 0
  | .breakSent => s.params.breakSettle - s.idleCount
  | .start => 0
  | .data => s.slotsLatch - s.cursor

/-- R128: the arm of `STATE` goes to the next state of the cycle, or stays and has fewer events to wait. -/
theorem exec_armOf_moves_or_waits {s t : State} (h : exec (armOf s.txState) s = .next t) :
    t.txState = cycleNext s.txState ∨ (t.txState = s.txState ∧ waitingEvents t < waitingEvents s) := by
  cases hx : s.txState <;> rw [hx] at h
  case idle =>
    rcases idle_waitsFor_brk.moves_or_counts h with hmoves | ⟨hstays, hparams, hcount, hle⟩
    · exact .inl hmoves
    · refine .inr ⟨hstays.trans hx, ?_⟩
      simp only [waitingEvents, hstays, hparams, hcount, hx]
      omega
  case brk => cases h; exact .inl rfl
  case breakSent =>
    rcases breakSent_waitsFor_start.moves_or_counts h with hmoves | ⟨hstays, hparams, hcount, hle⟩
    · exact .inl hmoves
    · refine .inr ⟨hstays.trans hx, ?_⟩
      simp only [waitingEvents, hstays, hparams, hcount, hx]
      omega
  case start => rw [armOf, exec_txeStart] at h; cases h; exact .inl rfl
  case data =>
    have hc := cursor_le_of_exec_txeData h
    rcases Nat.lt_or_ge s.slotsLatch (s.cursor + 1) with hl | hl
    · rw [armOf, exec_txeData_of_last hc hl] at h; cases h; exact .inl rfl
    · rw [armOf, exec_txeData_of_not_last hc hl] at h; cases h
      refine .inr ⟨hx, ?_⟩
      simp only [waitingEvents, State.advance_txState, State.advance_slotsLatch, State.advance_cursor, State.emit_txState,
        State.emit_slotsLatch, State.emit_cursor, hx]
      omega

/-- R128: the same of the step of an event. -/
theorem stepOn_txe_moves_or_waits {s t : State} (h : stepOn .txe s = .next t) :
    t.txState = cycleNext s.txState ∨ (t.txState = s.txState ∧ waitingEvents t < waitingEvents s) := by
  rcases stepOn_cases .txe s with ⟨w, i, hx, _⟩ | ⟨w, e, hx, _⟩ | ⟨hx, _, hs⟩ | ⟨hx, _, hs⟩ | ⟨hx, _⟩ <;> cases hx
  · rw [hs] at h; exact exec_armOf_moves_or_waits (s := s.beginStep) h
  · rw [hs] at h; cases h

/-- R25, R128: a command moves none of the working registers, but for a START that finds the block inactive. -/
theorem stepOn_cmd_keeps_working {w : CommandWord} {s t : State} (h : stepOn (.cmd w) s = .next t)
    (hw : decodeCommand w = .ok .start → s.active = true) :
    t.txState = s.txState ∧ waitingEvents t = waitingEvents s := by
  rcases stepOn_cases (.cmd w) s with ⟨_, i, hx, hi, hs⟩ | ⟨_, e, hx, _, hs⟩ | ⟨hx, _⟩ | ⟨hx, _⟩ | ⟨hx, _⟩ <;> cases hx
  · rw [hs] at h
    obtain ⟨hparams, -, -⟩ := exec_keeps h
    obtain ⟨hstate, hcursor, hcount, hlatch⟩ := exec_writes_working h
    obtain ⟨⟨hidle, hbrk, hsent, hstart, hdata⟩, -⟩ := decodeCommand_ne_arm_or_pop hi
    have hcmd : ¬ (i = .start ∧ s.beginStep.active = false) := by
      rintro ⟨rfl, hinactive⟩
      exact absurd ((hw hi).symm.trans hinactive) (by decide)
    simp only [hidle, hbrk, hsent, hstart, hdata, hcmd, false_and, or_false, imp_false, not_not, ne_eq]
      at hstate hcursor hcount hlatch
    exact ⟨hstate, by simp [waitingEvents, hstate, hcursor, hcount, hlatch, hparams]⟩
  · rw [hs] at h; cases h; exact ⟨rfl, rfl⟩

/-- R31: no arm is a START or a STOP. -/
theorem armOf_ne_start_stop (x : TxState) : armOf x ≠ .start ∧ armOf x ≠ .stop := by
  cases x <;> decide

/-- R44, R128: an active block stays active, but for a STOP and a reset. -/
theorem stepOn_keeps_active {x : Input} {s t : State} (h : stepOn x s = .next t) (ha : s.active = true)
    (hrst : x ≠ .rst) (hstop : ∀ w, x = .cmd w → decodeCommand w ≠ .ok .stop) : t.active = true := by
  rcases stepOn_cases x s with ⟨w, i, rfl, hw, hs⟩ | ⟨w, e, rfl, _, hs⟩ | ⟨rfl, _, hs⟩ | ⟨rfl, _, hs⟩ | ⟨rfl, hs⟩ <;>
    rw [hs] at h
  · by_cases hi : i = .start
    · subst hi
      rw [exec_start_of_active (s := s.beginStep) ha] at h; cases h; exact ha
    · obtain ⟨-, -, hactive, -⟩ := exec_writes_caller_state h
      by_contra hne
      rcases hactive (fun he => hne (he.trans ha)) with rfl | rfl
      · exact hi rfl
      · exact hstop w rfl hw
  · cases h; exact ha
  · obtain ⟨-, -, hactive, -⟩ := exec_writes_caller_state h
    obtain ⟨hstart, hstop⟩ := armOf_ne_start_stop s.txState
    by_contra hne
    rcases hactive (fun he => hne (he.trans ha)) with harm | harm
    · exact hstart harm
    · exact hstop harm
  · cases h
  · exact absurd rfl hrst

end Sys2Proof.Machine
end

section
/-! Runs of events through the phases of one frame (R129 to R131), each phase as one update of the state it starts from; and
endless runs, which pass through the cycle again and again (R167). -/

namespace Sys2Proof.Machine

open Sys2Proof

/-! Phases. -/

/-- A run over events falls into runs over fewer. -/
theorem scriptTxe_add (a b : Nat) (rest : List Input) :
    scriptTxe (a + b) ++ rest = scriptTxe a ++ (scriptTxe b ++ rest) := by
  rw [scriptTxe, List.replicate_add, List.append_assoc]; rfl

/-- R121, R123: the step of an event in a waiting state. -/
theorem step_of_txe_waiting {x y : TxState} {settle : Params → Nat} (hw : WaitsFor x y settle) {s : State}
    {rest : List Input} (hp : s.popFetch = none) (hx : s.txState = x) (ht : s.txie = true)
    (hi : s.inputs = .txe :: rest) :
    step s = .next { s with
      idleCount := s.idleCount + 1, txState := if settle s.params < s.idleCount + 1 then y else s.txState,
      inputs := rest, popPort := [], rspPort := none } := by
  subst hx
  exact (step_of_txe hp hi ht).trans (hw _)

/-- R121, R123: a waiting state is left on the event whose count exceeds the threshold, and nothing is emitted on the way. -/
theorem run_txe_waiting {x y : TxState} {settle : Params → Nat} (hw : WaitsFor x y settle) {m : Nat} {s : State}
    {rest : List Input} (hp : s.popFetch = none) (hx : s.txState = x) (ht : s.txie = true)
    (hm : s.idleCount + m = settle s.params) (hi : s.inputs = scriptTxe (m + 1) ++ rest) :
    Host.Core.run core (m + 1) s = .next { s with
      txState := y, idleCount := settle s.params + 1, inputs := rest, popPort := [], rspPort := none } := by
  have hstep := step_of_txe_waiting hw hp hx ht hi
  induction m generalizing s with
  | zero =>
    have hexceeds : settle s.params < s.idleCount + 1 := by omega
    rw [if_pos hexceeds] at hstep
    rw [run_of_step hstep, ← hm]
    rfl
  | succ m ih =>
    have hwithin : ¬ settle s.params < s.idleCount + 1 := by omega
    have hleft : s.idleCount + 1 + m = settle s.params := by omega
    rw [if_neg hwithin] at hstep
    rw [run_of_step hstep]
    exact ih hp hx ht hleft rfl (step_of_txe_waiting hw hp hx ht rfl)

/-- R122: the step of an event in BREAK. -/
theorem step_of_txe_brk {s : State} {rest : List Input} (hp : s.popFetch = none) (hx : s.txState = .brk)
    (ht : s.txie = true) (hi : s.inputs = .txe :: rest) :
    step s = .next { s with
      txState := .breakSent, idleCount := 0, lineBaud := .brk, lineFmt := .brk, inputs := rest,
      popPort := [.cfgline .brk .brk, .txwrite 0x00], rspPort := none,
      popTrace := s.popTrace ++ [.cfgline .brk .brk, .txwrite 0x00] } := by
  rw [step_of_txe hp hi ht, show armOf s.txState = .txeBreak from congrArg armOf hx]
  exact exec_txeBreak_fields _

/-- R124: the step of an event in START. -/
theorem step_of_txe_start {s : State} {rest : List Input} (hp : s.popFetch = none) (hx : s.txState = .start)
    (ht : s.txie = true) (hi : s.inputs = .txe :: rest) :
    step s = .next { s with
      txState := .data, cursor := 1, slotsLatch := s.slotsCfg, lineBaud := .data, lineFmt := .data, inputs := rest,
      popPort := [.cfgline .data .data, .txwrite (Memory.read s.buf 0)], rspPort := none,
      popTrace := s.popTrace ++ [.cfgline .data .data, .txwrite (Memory.read s.buf 0)] } := by
  rw [step_of_txe hp hi ht, show armOf s.txState = .txeStart from congrArg armOf hx]
  exact exec_txeStart_fields _

/-- R125, R131: the events of a DATA phase send the entries from `CURSOR` to `SLOTS_LATCH`, and the last one goes idle. -/
theorem run_txe_data_phase {m : Nat} {s : State} {rest : List Input} (hp : s.popFetch = none) (hx : s.txState = .data)
    (ht : s.txie = true) (hl : s.slotsLatch ≤ s.params.maxSlots) (hm : s.cursor + m = s.slotsLatch)
    (hi : s.inputs = scriptTxe (m + 1) ++ rest) :
    Host.Core.run core (m + 1) s = .next { s with
      txState := .idle, idleCount := 0, cursor := s.slotsLatch + 1, inputs := rest,
      popPort := [.txwrite (Memory.read s.buf s.slotsLatch)], rspPort := none,
      popTrace := s.popTrace ++ (List.range (m + 1)).map (fun j => .txwrite (Memory.read s.buf (s.cursor + j))) } := by
  induction m generalizing s with
  | zero =>
    have hc : s.cursor = s.slotsLatch := hm
    have hstep := step_of_txe hp hi ht
    rw [(armOf_eq_txeData_iff _).mpr hx] at hstep
    have hlast := hstep.trans (exec_txeData_of_last (hc.trans_le hl) (Nat.lt_succ_of_le hc.ge))
    rw [run_of_step hlast, ← hc]
    rfl
  | succ m ih =>
    have hc : s.cursor + 1 ≤ s.slotsLatch := by omega
    have hleft : s.cursor + 1 + m = s.slotsLatch := by omega
    have hstep := step_of_txe hp hi ht
    rw [(armOf_eq_txeData_iff _).mpr hx] at hstep
    have hnext := hstep.trans (exec_txeData_of_not_last (Nat.le_of_succ_le (hc.trans hl)) hc)
    have hsent : (List.range (m + 1 + 1)).map (fun j => Pop.txwrite (Memory.read s.buf (s.cursor + j))) =
        [.txwrite (Memory.read s.buf s.cursor)] ++
          (List.range (m + 1)).map (fun j => .txwrite (Memory.read s.buf (s.cursor + 1 + j))) := by
      rw [List.range_succ_eq_map]
      simp [Function.comp_def, Nat.add_right_comm, Nat.add_assoc]
    rw [run_of_step hnext, hsent, ← List.append_assoc]
    exact ih hp hx ht hl hleft rfl

/-! One frame. -/

/-- R129: the start of IDLE with events enabled, where a frame begins. -/
structure AtFrameStart (s : State) : Prop where
  idle : s.txState = .idle
  count : s.idleCount = 0
  enabled : s.txie = true
  no_popFetch : s.popFetch = none

/-- R100: START, where it finds the block inactive, leads to the start of a frame. -/
theorem step_start_to_frameStart {s : State} {rest : List Input} (ha : s.active = false) (hp : s.popFetch = none)
    (hi : s.inputs = scriptStart :: rest) :
    ∃ u, step s = .next u ∧ AtFrameStart u ∧ u.params = s.params ∧ u.slotsCfg = s.slotsCfg ∧ u.buf = s.buf ∧
      u.popTrace = s.popTrace ++ [.flush, .cfgline .data .data, .txieOn] ∧ u.inputs = rest :=
  ⟨_, step_start_of_inactive ha hp hi, ⟨rfl, rfl, rfl, hp⟩, rfl, rfl, rfl, rfl, rfl⟩

/-- R130: `DATA_SETTLE + 1` events lead from the start of IDLE to BREAK and emit nothing. -/
theorem AtFrameStart.run_to_brk {s : State} {rest : List Input} (h : AtFrameStart s)
    (hi : s.inputs = scriptTxe (s.params.dataSettle + 1) ++ rest) :
    Host.Core.run core (s.params.dataSettle + 1) s = .next { s with
      txState := .brk, idleCount := s.params.dataSettle + 1, inputs := rest, popPort := [], rspPort := none } :=
  run_txe_waiting idle_waitsFor_brk h.no_popFetch h.idle h.enabled (by rw [h.count, Nat.zero_add]) hi

/-- R130: the next event emits the break byte. -/
theorem AtFrameStart.run_to_breakSent {s : State} {rest : List Input} (h : AtFrameStart s)
    (hi : s.inputs = scriptTxe (s.params.dataSettle + 2) ++ rest) :
    Host.Core.run core (s.params.dataSettle + 2) s = .next { s with
      txState := .breakSent, idleCount := 0, lineBaud := .brk, lineFmt := .brk, inputs := rest,
      popPort := [.cfgline .brk .brk, .txwrite 0x00], rspPort := none,
      popTrace := s.popTrace ++ [.cfgline .brk .brk, .txwrite 0x00] } := by
  have hbrk := h.run_to_brk (hi.trans (scriptTxe_add (s.params.dataSettle + 1) 1 rest))
  refine (run_append (k := 1) hbrk).trans ?_
  exact run_of_step (step_of_txe_brk h.no_popFetch rfl h.enabled rfl)

/-- R130: `BREAK_SETTLE + 1` further events lead to START and emit nothing. -/
theorem AtFrameStart.run_to_start {s : State} {rest : List Input} (h : AtFrameStart s)
    (hi : s.inputs = scriptTxe (s.params.dataSettle + s.params.breakSettle + 3) ++ rest) :
    Host.Core.run core (s.params.dataSettle + s.params.breakSettle + 3) s = .next { s with
      txState := .start, idleCount := s.params.breakSettle + 1, lineBaud := .brk, lineFmt := .brk, inputs := rest,
      popPort := [], rspPort := none, popTrace := s.popTrace ++ [.cfgline .brk .brk, .txwrite 0x00] } := by
  have hlen : s.params.dataSettle + s.params.breakSettle + 3 =
      s.params.dataSettle + 2 + (s.params.breakSettle + 1) := by omega
  rw [hlen] at hi ⊢
  have hsent := h.run_to_breakSent (hi.trans (scriptTxe_add _ _ rest))
  rw [run_append hsent]
  exact run_txe_waiting breakSent_waitsFor_start h.no_popFetch rfl h.enabled (Nat.zero_add _) rfl

/-- R130: the next event latches the slot count and emits the start code. -/
theorem AtFrameStart.run_to_data {s : State} {rest : List Input} (h : AtFrameStart s)
    (hi : s.inputs = scriptTxe (s.params.dataSettle + s.params.breakSettle + 4) ++ rest) :
    Host.Core.run core (s.params.dataSettle + s.params.breakSettle + 4) s = .next { s with
      txState := .data, cursor := 1, idleCount := s.params.breakSettle + 1, slotsLatch := s.slotsCfg,
      lineBaud := .data, lineFmt := .data, inputs := rest,
      popPort := [.cfgline .data .data, .txwrite (Memory.read s.buf 0)], rspPort := none,
      popTrace := s.popTrace ++ [.cfgline .brk .brk, .txwrite 0x00, .cfgline .data .data,
        .txwrite (Memory.read s.buf 0)] } := by
  have hstart := h.run_to_start (hi.trans (scriptTxe_add (s.params.dataSettle + s.params.breakSettle + 3) 1 rest))
  refine (run_append (k := 1) hstart).trans ?_
  rw [run_of_step (step_of_txe_start (by exact h.no_popFetch) rfl (by exact h.enabled) rfl)]
  simp [Host.Core.run]

/-- R131: the trace of a frame of at least one slot, cut where DATA begins. -/
theorem frameTrace_succ (buf : Memory) (m : Nat) :
    frameTrace buf (m + 1) =
      [.cfgline .brk .brk, .txwrite 0x00, .cfgline .data .data, .txwrite (Memory.read buf 0)] ++
        (List.range (m + 1)).map (fun j => .txwrite (Memory.read buf (1 + j))) := by
  rw [frameTrace, List.range_succ_eq_map]
  simp [Function.comp_def, Nat.add_comm]

/-- R131: a frame of `n` slots emits `n + 4` operations. -/
theorem length_frameTrace (buf : Memory) (n : Nat) : (frameTrace buf n).length = n + 4 := by
  simp only [frameTrace, List.length_append, List.length_cons, List.length_nil, List.length_map, List.length_range]
  omega

/-- R129, R130, R131: the events of one frame lead from the start of IDLE back to it. -/
theorem AtFrameStart.run_frame {s : State} {rest : List Input} (h : AtFrameStart s) (hpos : 1 ≤ s.slotsCfg)
    (hmax : s.slotsCfg ≤ s.params.maxSlots) (hi : s.inputs = scriptFrame s.params s.slotsCfg ++ rest) :
    Host.Core.run core (frameEvents s.params s.slotsCfg) s = .next { s with
      txState := .idle, cursor := s.slotsCfg + 1, idleCount := 0, slotsLatch := s.slotsCfg,
      lineBaud := .data, lineFmt := .data, inputs := rest,
      popPort := [.txwrite (Memory.read s.buf s.slotsCfg)], rspPort := none,
      popTrace := s.popTrace ++ frameTrace s.buf s.slotsCfg } := by
  obtain ⟨m, hm⟩ : ∃ m, s.slotsCfg = m + 1 := ⟨s.slotsCfg - 1, by omega⟩
  have hlen : frameEvents s.params s.slotsCfg = s.params.dataSettle + s.params.breakSettle + 4 + (m + 1) := by
    unfold frameEvents; omega
  rw [scriptFrame, hlen, scriptTxe_add] at hi
  rw [hlen, run_append (h.run_to_data hi)]
  have hlatch : 1 + m = s.slotsCfg := by omega
  refine (run_txe_data_phase (by exact h.no_popFetch) rfl (by exact h.enabled) hmax hlatch rfl).trans ?_
  rw [hm, frameTrace_succ, List.append_assoc]

/-! Endless runs. -/

section Endless

variable {σ : Nat → Input} {r : Nat → State}

/-- R44, R167: a run with no STOP and no reset from an active good state stays in active good states. -/
theorem RunsOn.inv_and_active (hrun : RunsOn σ r) (hinv : Inv (r 0)) (ha : (r 0).active = true)
    (hin : ∀ n, σ n ≠ .rst ∧ ∀ w, σ n = .cmd w → decodeCommand w ≠ .ok .stop) (n : Nat) :
    Inv (r n) ∧ (r n).active = true := by
  induction n with
  | zero => exact ⟨hinv, ha⟩
  | succ n ih =>
    obtain ⟨hinv, ha⟩ := ih
    obtain ⟨hrst, hstop⟩ := hin n
    exact ⟨hinv.after_stepOn (hrun n), stepOn_keeps_active (hrun n) ha hrst hstop⟩

/-- R128: until the next event an active block stays where it is in the cycle. -/
theorem RunsOn.next_event (hrun : RunsOn σ r) (ha : ∀ n, (r n).active = true) (hrst : ∀ n, σ n ≠ .rst) {d n : Nat}
    (hd : σ (n + d) = .txe) :
    ∃ m, n ≤ m ∧ σ m = .txe ∧ (r m).txState = (r n).txState ∧ waitingEvents (r m) = waitingEvents (r n) := by
  induction d generalizing n with
  | zero => exact ⟨n, le_rfl, hd, rfl, rfl⟩
  | succ d ih =>
    cases hx : σ n with
    | txe => exact ⟨n, le_rfl, hx, rfl, rfl⟩
    | rst => exact absurd hx (hrst n)
    | cmd w =>
      have hstep := hrun n
      rw [hx] at hstep
      obtain ⟨hstate, hwait⟩ := stepOn_cmd_keeps_working hstep (fun _ => ha n)
      obtain ⟨m, hle, hm, hstate', hwait'⟩ := ih (n := n + 1) (by rwa [Nat.add_right_comm])
      exact ⟨m, Nat.le_of_succ_le hle, hm, hstate'.trans hstate, hwait'.trans hwait⟩

/-- R128, R167: where events keep coming an active block moves on to the next state of the cycle: every event before that
lessens the number of events it can still wait. -/
theorem RunsOn.eventually_next (hrun : RunsOn σ r) (ha : ∀ n, (r n).active = true) (hrst : ∀ n, σ n ≠ .rst)
    (hev : ∀ n, ∃ d, σ (n + d) = .txe) (n : Nat) : ∃ m, n ≤ m ∧ (r m).txState = cycleNext (r n).txState := by
  induction hk : waitingEvents (r n) using Nat.strong_induction_on generalizing n with
  | _ k ih =>
    obtain ⟨d, hd⟩ := hev n
    obtain ⟨m, hle, hm, hstate, hwait⟩ := hrun.next_event ha hrst hd
    have hstep := hrun m
    rw [hm] at hstep
    rcases stepOn_txe_moves_or_waits hstep with hmoves | ⟨hstays, hless⟩
    · exact ⟨m + 1, by omega, by rw [hmoves, hstate]⟩
    · obtain ⟨m', hle', hm'⟩ := ih _ (by omega) (m + 1) rfl
      exact ⟨m', by omega, by rw [hm', hstays, hstate]⟩

/-- R128: so it moves on along the cycle as far as one likes. -/
theorem eventually_iterate_of_next (hnext : ∀ n, ∃ m, n ≤ m ∧ (r m).txState = cycleNext (r n).txState) (n k : Nat) :
    ∃ m, n ≤ m ∧ (r m).txState = cycleNext^[k] (r n).txState := by
  induction k with
  | zero => exact ⟨n, le_rfl, rfl⟩
  | succ k ih =>
    obtain ⟨m, hle, hm⟩ := ih
    obtain ⟨m', hle', hm'⟩ := hnext m
    exact ⟨m', hle.trans hle', by rw [hm', hm, Function.iterate_succ_apply']⟩

end Endless

/-- R128: the cycle leads from every state to every state. -/
theorem cycleNext_reaches (x y : TxState) : ∃ k, cycleNext^[k] x = y := by
  have h : ∃ k ∈ List.range 5, cycleNext^[k] x = y := by cases x <;> cases y <;> decide
  obtain ⟨k, -, hk⟩ := h
  exact ⟨k, hk⟩

end Sys2Proof.Machine
end

section
/-! The obligations of spec/41_txe_state_machine.md. -/

namespace Sys2Proof.Machine

open Sys2Proof

/-- Settles O44: the start of IDLE begins a frame, and the invariants give it at least one slot and at most `MAX_SLOTS`. -/
theorem frameOfEvents : Obligations.FrameOfEvents := by
  intro s rest h hx hc ht hi
  have hstart : AtFrameStart s := ⟨hx, hc, ht, h.no_popFetch⟩
  obtain ⟨hmin, hmax⟩ := h.cfg_range
  have hrun := hstart.run_frame (h.params.one_le_min.trans hmin) hmax hi
  exact ⟨_, hrun, rfl, rfl, rfl, rfl, rfl, rfl, rfl, rfl, ht, rfl, rfl, length_frameTrace s.buf s.slotsCfg⟩

/-- Settles O45: START leads to the start of a frame, and each clause is a run from there to one point of it. -/
theorem firstFrameAfterStart : Obligations.FirstFrameAfterStart := by
  intro s rest h ha hi
  obtain ⟨u, hstep, hstart, hparams, hcfg, hbuf, htrace, hin⟩ := step_start_to_frameStart ha h.no_popFetch hi
  rw [← hparams] at hin ⊢
  rw [← hcfg, ← hbuf]
  have hfrom : ∀ k, Host.Core.run core (1 + k) s = Host.Core.run core k u := fun k => run_append (run_of_step hstep)
  have hsplit : ∀ a b, a + b = u.params.dataSettle + u.params.breakSettle + 4 →
      u.inputs = scriptTxe a ++ (scriptTxe b ++ rest) := by
    intro a b hab
    rw [hin, ← hab, scriptTxe_add]
  refine ⟨⟨_, (hfrom _).trans (hstart.run_to_brk (hsplit _ (u.params.breakSettle + 3) (by omega))), htrace, rfl⟩,
    ⟨_, (hfrom _).trans (hstart.run_to_breakSent (hsplit _ (u.params.breakSettle + 2) (by omega))), ?_⟩,
    ⟨_, (hfrom _).trans (hstart.run_to_start (hsplit _ 1 (by omega))), rfl, ?_⟩,
    ⟨_, (hfrom _).trans (hstart.run_to_data hin), rfl, rfl, rfl, rfl, ?_⟩⟩ <;>
  simp [htrace]

/-- Settles O46: a fair run stays active, so its events keep coming, each state is followed by the next, and the cycle leads to
every state. -/
theorem framesNeverCease : Obligations.FramesNeverCease := by
  intro σ r hrun hfair hinv ht hin n x
  have hgood := hrun.inv_and_active hinv (hinv.txie_eq ▸ ht) hin
  have hevents : ∀ n, ∃ d, σ (n + d) = .txe := by
    intro n
    obtain ⟨m, hle, hm⟩ := hfair n
    obtain ⟨hinv, ha⟩ := hgood m
    refine ⟨m - n, ?_⟩
    rw [Nat.add_sub_cancel' hle]
    exact hm.resolve_right (fun hoff => absurd ((hinv.txie_eq.trans ha).symm.trans hoff) (by decide))
  have hnext := hrun.eventually_next (fun n => (hgood n).2) (fun n => (hin n).1) hevents
  obtain ⟨k, rfl⟩ := cycleNext_reaches (r n).txState x
  exact eventually_iterate_of_next hnext n k

/-- Settles O43: an event moves `STATE` or waits, which BREAK and START never do; a command that is no START keeps `STATE`. -/
theorem statesFollowTheCycle : Obligations.StatesFollowTheCycle := by
  intro s t x rest hp hi hrst hcmd h
  rw [step_of_input hp hi] at h
  cases x with
  | rst => exact absurd rfl hrst
  | cmd w =>
    obtain ⟨hstart, -⟩ := hcmd w rfl
    obtain ⟨hstate, -⟩ := stepOn_cmd_keeps_working h (fun hw => absurd hw hstart)
    exact ⟨.inl hstate, nofun⟩
  | txe =>
    rcases stepOn_txe_moves_or_waits h with hmoves | ⟨hstays, hless⟩
    · exact ⟨.inr ⟨rfl, hmoves⟩, fun _ _ => hmoves⟩
    · refine ⟨.inl hstays, fun _ hx => ?_⟩
      rcases hx with hx | hx <;> simp [waitingEvents, hx] at hless

/-- Settles O2: `STATE` at the start of the step selects the arm. -/
theorem eventRunsTheArmOfState : Obligations.EventRunsTheArmOfState := by
  intro s rest hp hi ht u
  have hsel : ∀ x, s.txState = x → step s = exec (armOf x) u := by
    rintro x rfl
    exact step_of_txe hp hi ht
  exact ⟨hsel .idle, hsel .brk, hsel .breakSent, hsel .start, hsel .data⟩

/-- Settles O14: R78 gives the code, and IDLE waits for BREAK. -/
theorem idleArm : Obligations.IdleArm := ⟨by decide, idle_waitsFor_brk⟩

/-- Settles O15: R78 gives the code, and the arm has one branch. -/
theorem breakArm : Obligations.BreakArm := ⟨by decide, exec_txeBreak_fields⟩

/-- Settles O16: R78 gives the code, and BREAK_SENT waits for START. -/
theorem breakSentArm : Obligations.BreakSentArm := ⟨by decide, breakSent_waitsFor_start⟩

/-- Settles O17: R78 gives the code, and entry 0, which is sent, always exists. -/
theorem startArm : Obligations.StartArm := ⟨by decide, exec_txeStart_fields⟩

/-- Settles O18, by the comparison of the advanced cursor with `SLOTS_LATCH`. -/
theorem dataArm : Obligations.DataArm := by
  refine ⟨by decide, fun s hc => ?_⟩
  rcases Nat.lt_or_ge s.slotsLatch (s.cursor + 1) with hl | hl
  · rw [if_pos hl, if_pos hl]; exact exec_txeData_of_last hc hl
  · rw [if_neg (Nat.not_lt.mpr hl), if_neg (Nat.not_lt.mpr hl)]; exact exec_txeData_of_not_last hc hl

end Sys2Proof.Machine
end

section
/-! What a step sends and what the pins show of it: the operations of a step, one in each cycle (spec/42_peripheral_ops.md R140,
R151), the only steps that send a byte (R149), and the divisor (R143). -/

namespace Sys2Proof.Machine

open Sys2Proof

/-! The presentation of a step. -/

/-- R140, R151: the cycle that takes an input presents the first operation of its step. -/
theorem portCycle_of_stepOn {s t : State} {p : PortIn} {x : Input} (hx : portInput s p = some x)
    (h : stepOn x s = .next t) : portCycle s p = .next (portOut s p t, { t with popPort := t.popPort.tail }) := by
  simp only [portCycle, hx, h]

/-- R151, R168: while an operation is left to present, no event is taken and no command, and `cmd_ready` is 0. -/
theorem port_takes_nothing_of_busy {s : State} {p : PortIn} (hr : p.rst = false) (hbusy : s.popPort ≠ []) :
    portTakesEvent s p = false ∧ portCmdReady s p = false := by
  constructor <;> rw [← Bool.not_eq_true]
  · exact fun h => hbusy ((portTakesEvent_iff s hr).mp h).1
  · exact fun h => hbusy ((portCmdReady_iff s hr).mp h).1

/-- R151: a busy cycle presents the next operation left and does nothing else, if no response is due in it. -/
theorem portCycle_of_busy {s : State} {p : PortIn} (hr : p.rst = false) (hbusy : s.popPort ≠ [])
    (hrsp : s.rspPort = none) : portCycle s p = .next (portOut s p s, { s with popPort := s.popPort.tail }) := by
  obtain ⟨hevent, hready⟩ := port_takes_nothing_of_busy hr hbusy
  have hkeep : { s with rspPort := none } = s := by rw [← hrsp]
  rw [portCycle_of_no_input (portInput_of_neither hr hevent (.inl hready)), hkeep, ← hrsp]

/-- R140: `pop_valid` and `pop_word` show the first operation left. -/
theorem portOut_pop (s : State) (p : PortIn) {t : State} {q : Pop} {qs : List Pop} (hq : t.popPort = q :: qs) :
    ((portOut s p t).popValid, (portOut s p t).popWord) = (true, q.word) := by
  simp [portOut, hq]

/-- A run of cycles goes on from its first cycle. -/
theorem portRun_cons {s t u : State} {p : PortIn} {ps : List PortIn} {o : PortOut} {os : List PortOut}
    (h : portCycle s p = .next (o, t)) (hrun : portRun t ps = .next (os, u)) :
    portRun s (p :: ps) = .next (o :: os, u) := by
  simp only [portRun, h, hrun]

/-- R151: as many cycles as there are operations left present them all, in order, and take nothing. -/
theorem portRun_of_busy {s : State} {ps : List PortIn} (hlen : s.popPort.length = ps.length)
    (hrst : ∀ q ∈ ps, q.rst = false) (hrsp : s.rspPort = none) :
    ∃ os, portRun s ps = .next (os, { s with popPort := [] }) ∧
      os.map (fun o => (o.popValid, o.popWord)) = s.popPort.map (fun q => (true, q.word)) ∧
      ∀ o ∈ os, o.cmdReady = false ∧ o.txeAck = false := by
  induction ps generalizing s with
  | nil =>
    have hport : s.popPort = [] := List.length_eq_zero_iff.mp hlen
    have hend : { s with popPort := [] } = s := by rw [← hport]
    exact ⟨[], by rw [hend]; rfl, by simp [hport], by simp⟩
  | cons p ps ih =>
    obtain ⟨q, qs, hq⟩ := List.exists_cons_of_length_eq_add_one hlen
    obtain ⟨hr, hrs⟩ := List.forall_mem_cons.mp hrst
    have hbusy : s.popPort ≠ [] := by simp [hq]
    obtain ⟨hevent, hready⟩ := port_takes_nothing_of_busy hr hbusy
    obtain ⟨os, hrun, hpop, hnone⟩ := ih (s := { s with popPort := s.popPort.tail }) (by simp [hlen]) hrs hrsp
    refine ⟨portOut s p s :: os, portRun_cons (portCycle_of_busy hr hbusy hrsp) hrun, ?_, ?_⟩
    · rw [List.map_cons, portOut_pop s p hq, hpop, hq]
      rfl
    · exact List.forall_mem_cons.mpr ⟨⟨hready, hevent⟩, hnone⟩

/-- R104, R147: a step that emits an operation does not respond, because RDSLOT emits none. -/
theorem rspPort_of_stepOn_emits {x : Input} {s t : State} (h : stepOn x s = .next t) (hemits : t.popPort ≠ []) :
    t.rspPort = none := by
  by_contra hrsp
  obtain ⟨w, idx, rfl, hw⟩ := (stepOn_responds_iff h).mp hrsp
  have hexec : exec (.rdslot idx) s.beginStep = .next t := by simpa [stepOn, acceptInput, hw, perform] using h
  exact hemits (exec_emits hexec).1

/-! The bytes. -/

/-- R147: a command's operation sends no byte. -/
theorem txwrite_notMem_emissionList_of_command {w : CommandWord} {i : Instr} (hw : decodeCommand w = .ok i) (s : State)
    (v : Byte) : .txwrite v ∉ emissionList i s := by
  rcases decodeCommand_shape hw with rfl | rfl | ⟨n, rfl⟩ | ⟨k, b, rfl⟩ | ⟨k, rfl⟩
  · cases hs : s.active <;> simp [emissionList, hs]
  all_goals simp [emissionList]

/-- R147: the step that sends a byte runs the arm that `STATE` selects. -/
theorem exec_armOf_of_stepOn_txwrite {x : Input} {s t : State} {v : Byte} (h : stepOn x s = .next t)
    (hv : .txwrite v ∈ t.popPort) : exec (armOf s.txState) s.beginStep = .next t := by
  rcases stepOn_cases x s with ⟨w, i, -, hw, hs⟩ | ⟨w, e, -, -, hs⟩ | ⟨-, -, hs⟩ | ⟨-, -, hs⟩ | ⟨-, hs⟩ <;> rw [hs] at h
  · obtain ⟨hport, -⟩ := exec_emits h
    rw [hport] at hv
    exact absurd hv (txwrite_notMem_emissionList_of_command hw _ v)
  · cases h; cases hv
  · exact h
  · cases h
  · cases h; cases hv

/-- R25: TXE.DATA leaves the bit rate as it was. -/
theorem lineBaud_of_exec_txeData {s t : State} (h : exec .txeData s = .next t) : t.lineBaud = s.lineBaud := by
  rw [exec_txeData_of_le (cursor_le_of_exec_txeData h)] at h
  cases h
  simp [apply_ite State.lineBaud]

/-- R46, R149: of the arms that good states select, TXE.BREAK alone sends a byte at break rate, and it is the break byte;
TXE.START and TXE.DATA send a buffer entry at data rate. -/
theorem Inv.arm_txwrite {s t : State} {v : Byte} (h : Inv s) (hidle : s.popPort = [])
    (ht : exec (armOf s.txState) s = .next t) (hv : .txwrite v ∈ t.popPort) :
    (t.lineBaud = .brk ∧ t.popPort = [.cfgline .brk .brk, .txwrite 0x00] ∧ s.txState = .brk) ∨
    (t.lineBaud = .data ∧ ((v = Memory.read s.buf 0 ∧ s.txState = .start) ∨
      (v = Memory.read s.buf s.cursor ∧ s.txState = .data))) := by
  obtain ⟨hport, -⟩ := exec_emits ht
  rw [hidle, List.nil_append] at hport
  rw [hport] at hv
  have hline := congrArg Prod.fst h.line
  cases hx : s.txState <;> rw [hx] at ht hv hport hline
  case idle | breakSent => cases hv
  case brk => cases ht; exact .inl ⟨rfl, hport, rfl⟩
  case start =>
    rw [armOf, exec_txeStart_fields] at ht
    cases ht
    exact .inr ⟨rfl, .inl ⟨by simpa [armOf, emissionList] using hv, rfl⟩⟩
  case data =>
    exact .inr ⟨(lineBaud_of_exec_txeData ht).trans hline, .inr ⟨by simpa [armOf, emissionList] using hv, rfl⟩⟩

/-! The divisor. -/

/-- R6, R143: both divisors fit 16 bits: the break rate's by its constraint, the data rate's because that rate is larger. -/
theorem divisor_lt {p : Params} (hp : p.Valid) (b : Baud) : divisor p b < 2 ^ 16 := by
  cases b with
  | brk => exact hp.div_fits
  | data => exact (Nat.div_le_div_left hp.baud_lt.le hp.break_pos).trans_lt hp.div_fits

/-- R143: `line_div` is the divisor of the rate selected, with nothing cut off. -/
theorem lineDiv_toNat {s : State} (hp : s.params.Valid) : s.lineDiv.toNat = divisor s.params s.lineBaud := by
  rw [State.lineDiv, BitVec.toNat_ofNat, Nat.mod_eq_of_lt (divisor_lt hp _)]

end Sys2Proof.Machine
end

section
/-! The obligations of spec/42_peripheral_ops.md. -/

namespace Sys2Proof.Machine

open Sys2Proof

/-- Settles O23: a step of a good state that sends a byte is the arm of `STATE`, and the line goes with `STATE` (R46). -/
theorem onlyTheBreakByteAtBreakRate : Obligations.OnlyTheBreakByteAtBreakRate := by
  intro s t v h ht hv
  obtain ⟨x, -, hstep, -⟩ := h.step_takes_input ht
  have harm := exec_armOf_of_stepOn_txwrite hstep hv
  rcases (h.with_inputs t.inputs).beginStep.arm_txwrite rfl harm hv with ⟨hbaud, hbreak⟩ | ⟨hbaud, hdata⟩
  · exact ⟨fun _ => hbreak, fun hd => absurd (hbaud.symm.trans hd) (by decide)⟩
  · exact ⟨fun hb => absurd (hbaud.symm.trans hb) (by decide), fun _ => hdata⟩

/-- Settles O47: the step's own cycle presents the first operation, and the busy cycles after it the others. -/
theorem stepIsPresentedInOrder : Obligations.StepIsPresentedInOrder := by
  intro s t p x hx hstep
  have hfirst := portCycle_of_stepOn hx hstep
  refine ⟨fun hnone => ?_, fun ps hlen hrst => ?_⟩
  · have hend : { t with popPort := t.popPort.tail } = t := by rw [hnone, List.tail_nil, ← hnone]
    rw [hend] at hfirst
    exact ⟨_, hfirst, by simp [portOut, hnone]⟩
  · obtain ⟨q, qs, hq⟩ := List.exists_cons_of_length_eq_add_one hlen
    have hrsp : t.rspPort = none := rspPort_of_stepOn_emits hstep (by simp [hq])
    obtain ⟨os, hrun, hpop, hbusy⟩ :=
      portRun_of_busy (s := { t with popPort := t.popPort.tail }) (by simp [hlen]) hrst hrsp
    refine ⟨portOut s p t :: os, _, portRun_cons hfirst hrun, ?_, hbusy, rfl⟩
    rw [List.map_cons, portOut_pop s p hq, hpop, hq]
    rfl

/-- Settles O24: the quotients fit the 16 bits of `line_div`; the two numbers are the quotients at the named rates. -/
theorem divisorOutput : Obligations.DivisorOutput := by
  refine ⟨fun s hp => ?_, fun s hclk hdata hbrk => ?_⟩
  · exact ⟨fun hb => by rw [lineDiv_toNat hp, hb, divisor], fun hb => by rw [lineDiv_toNat hp, hb, divisor]⟩
  · constructor <;> intro hb <;> simp [State.lineDiv, divisor, hb, hclk, hdata, hbrk]

end Sys2Proof.Machine
end

section
/-! Which operations and which inputs change `TXIE`, the enable of the block's one event (spec/60_exceptions.md R163). -/

namespace Sys2Proof.Machine

open Sys2Proof

/-- R163, R172: no arm changes `TXIE`. -/
theorem exec_armOf_keeps_txie {x : TxState} {s t : State} (h : exec (armOf x) s = .next t) : t.txie = s.txie := by
  obtain ⟨-, -, -, htxie, -⟩ := exec_writes_caller_state h
  by_contra hne
  have hwriter := htxie hne
  cases x <;> simp [armOf] at hwriter

/-- R100, R101, R163: of the host commands, START sets `TXIE` if it finds the block inactive, and STOP clears it; no other
changes it. -/
theorem exec_command_changes_txie {w : CommandWord} {i : Instr} {s t : State} (hw : decodeCommand w = .ok i)
    (h : exec i s = .next t) (hne : t.txie ≠ s.txie) :
    (i = .start ∧ s.active = false ∧ t.txie = true) ∨ (i = .stop ∧ t.txie = false) := by
  obtain ⟨-, hon, hoff, -⟩ := decodeCommand_ne_arm_or_pop hw
  obtain ⟨-, -, -, htxie, -⟩ := exec_writes_caller_state h
  rcases htxie hne with rfl | rfl | hi | hi
  · cases ha : s.active with
    | true => rw [exec_start_of_active ha] at h; cases h; exact absurd rfl hne
    | false => rw [exec_start_of_inactive ha] at h; cases h; exact .inl ⟨rfl, rfl, rfl⟩
  · cases h; exact .inr ⟨rfl, rfl⟩
  · exact absurd hi hon
  · exact absurd hi hoff

/-- R163, R190: the inputs whose step changes `TXIE`. -/
theorem stepOn_changes_txie {x : Input} {s t : State} (h : stepOn x s = .next t) (hne : t.txie ≠ s.txie) :
    (∃ w, x = .cmd w ∧ decodeCommand w = .ok .start ∧ s.active = false ∧ t.txie = true) ∨
    (∃ w, x = .cmd w ∧ decodeCommand w = .ok .stop ∧ t.txie = false) ∨
    (x = .rst ∧ t.txie = false) := by
  rcases stepOn_cases x s with ⟨w, i, rfl, hw, hs⟩ | ⟨w, e, rfl, _, hs⟩ | ⟨rfl, _, hs⟩ | ⟨rfl, _, hs⟩ | ⟨rfl, hs⟩ <;>
    rw [hs] at h
  · rcases exec_command_changes_txie (s := s.beginStep) hw h hne with ⟨rfl, ha, ht⟩ | ⟨rfl, ht⟩
    · exact .inl ⟨w, rfl, hw, ha, ht⟩
    · exact .inr (.inl ⟨w, rfl, hw, ht⟩)
  · cases h; exact absurd rfl hne
  · exact absurd (exec_armOf_keeps_txie (s := s.beginStep) h) hne
  · cases h
  · cases h; exact .inr (.inr ⟨rfl, rfl⟩)

end Sys2Proof.Machine
end

section
/-! The obligations of spec/60_exceptions.md. -/

namespace Sys2Proof.Machine

open Sys2Proof

/-- Settles O3: a masked event is an input that is not enabled; the rest is `stepOn_changes_txie` for the input taken. -/
theorem eventsAreMaskedWhileDisabled : Obligations.EventsAreMaskedWhileDisabled := by
  refine ⟨fun s rest hp hi ht => ?masked, fun s t x rest hp hi hstep hne => ?changed⟩
  case masked => exact (step_of_input hp hi).trans (stepOn_of_not_enabled ht)
  case changed =>
    rw [step_of_input hp hi] at hstep
    exact stepOn_changes_txie (s := { s with inputs := rest }) hstep hne

end Sys2Proof.Machine
end

section
/-! What keeps the canonical form of the slot buffer (spec/20_memory.md section 1), in good states and bad. -/

namespace Sys2Proof.Machine

open Sys2Proof

/-- R52, R57: an instruction keeps the form of the buffer, because the one that can change it is WRSLOT and a write keeps it. -/
theorem exec_keeps_buf_wf {i : Instr} {s t : State} (hwf : Memory.wf s.buf) (h : exec i s = .next t) :
    Memory.wf t.buf := by
  obtain ⟨hbuf, -⟩ := exec_writes_caller_state h
  by_cases hb : t.buf = s.buf
  · rwa [hb]
  · obtain ⟨k, v, rfl⟩ := hbuf hb
    cases h
    exact memWrite_wf s k v hwf

/-- R60, R190: taking an input keeps the form of the buffer, a reset by emptying it. -/
theorem stepOn_keeps_buf_wf {x : Input} {s t : State} (hwf : Memory.wf s.buf) (h : stepOn x s = .next t) :
    Memory.wf t.buf := by
  rcases stepOn_cases x s with ⟨w, i, -, -, hs⟩ | ⟨w, e, -, -, hs⟩ | ⟨-, -, hs⟩ | ⟨-, -, hs⟩ | ⟨-, hs⟩ <;> rw [hs] at h
  · exact exec_keeps_buf_wf (s := s.beginStep) hwf h
  · cases h; exact hwf
  · exact exec_keeps_buf_wf (s := s.beginStep) hwf h
  · cases h
  · cases h; exact reset_buf_wf s.params

end Sys2Proof.Machine
end

section
/-! Hardware reset in the two layers (spec/70_reset_and_hazards.md R190). -/

namespace Sys2Proof.Machine

open Sys2Proof

/-- R190: the step of a reset. -/
theorem step_of_rst {s : State} {rest : List Input} (hp : s.popFetch = none) (hi : s.inputs = .rst :: rest) :
    step s = .next (hardwareReset { s with inputs := rest }) :=
  step_of_input hp hi

/-- R190: with `rst = 1` the reset is the input taken, whatever the other pins are. -/
theorem portInput_of_rst (s : State) {p : PortIn} (hr : p.rst = true) : portInput s p = some .rst :=
  if_pos hr

/-- R190: a cycle with `rst = 1` takes the reset and leaves no operation to present. -/
theorem portCycle_of_rst (s : State) {p : PortIn} (hr : p.rst = true) :
    portCycle s p = .next (portOut s p (hardwareReset s), hardwareReset s) :=
  portCycle_of_stepOn (portInput_of_rst s hr) rfl

end Sys2Proof.Machine
end

section
/-! The obligations on the buffer's form, reserved command words, hardware reset, and TXE.DATA outside the buffer. -/

namespace Sys2Proof.Machine

open Sys2Proof

/-- Settles O36: a step runs a placed peripheral word, or takes the next input, and both keep the form. -/
theorem bufferFormIsKeptByEveryStep : Obligations.BufferFormIsKeptByEveryStep := by
  intro s t hwf h
  cases hp : s.popFetch with
  | some p =>
    rcases step_of_popFetch hp with ⟨i, -, hs⟩ | ⟨e, -, hs⟩ <;> rw [hs] at h
    · exact exec_keeps_buf_wf (s := { s.beginStep with popFetch := none }) hwf h
    · cases h
  | none =>
    cases hi : s.inputs with
    | nil => rw [step_of_no_input hp hi] at h; cases h
    | cons x rest =>
      rw [step_of_input hp hi] at h
      exact stepOn_keeps_buf_wf (s := { s with inputs := rest }) hwf h

/-- Settles O4: the step of a reserved command word is its step's beginning and nothing more. -/
theorem reservedCommandIsIgnored : Obligations.ReservedCommandIsIgnored :=
  fun _ _ _ _ hp hi hw => step_of_reserved_command hp hi hw

/-- Settles O6: in either layer `rst` is taken before all else and answered by `hardwareReset`. (The model's own
`hardwareReset` holds the obligation's plain name.) -/
theorem hardwareReset_step_and_pins : Obligations.HardwareReset :=
  ⟨fun _ _ => step_of_rst, fun s _ _ _ => ⟨_, portCycle_of_rst s rfl, rfl, rfl, rfl, rfl⟩⟩

/-- Settles O19: a cursor above `MAX_SLOTS` names no entry to read. -/
theorem dataArmOutsideTheBuffer : Obligations.DataArmOutsideTheBuffer :=
  fun _ h => exec_txeData_of_lt h

end Sys2Proof.Machine
end
